-- ==== Sys2Proof/Word.lean ====
section
/-! DEFINITION. The word types of HS-CORE: the widths that 00_scope.md rule R3 fixes. -/

namespace Sys2Proof

/-- A command word: 64 bits (R48). -/
abbrev Cmd := BitVec 64

/-- Motor count, motor index and the F16 field: 16 bits, unsigned (R3). -/
abbrev Idx := BitVec 16

/-- A position counter, delta value or remaining delta: 32 bits, two's complement (R3). -/
abbrev Counter := BitVec 32

/-- An unsigned 32-bit value: the step delay, a speed operand, the response data (R3). -/
abbrev Word := BitVec 32

/-- A time in microseconds: 64 bits, unsigned (R3, R4). -/
abbrev Time := BitVec 64

/-- A coil pattern, one entry of the phase table: 8 bits (R61). -/
abbrev Pattern := BitVec 8

end Sys2Proof
end

