-- ==== Sys2Proof/Config.lean ====
section
/-! DEFINITION. The configuration record of HS-CORE, one sample of its input ports, and the constants
that the spec leaves open. -/

namespace Sys2Proof

/-- The configuration record (R1). None of it changes after reset (R34); the machine reads it from its
state, so that every statement about all states is a statement about all configurations. -/
structure Config where
  /-- `NMAX`: capacity of the motor arrays. -/
  nmax : Nat
  /-- `N_INIT`: motor count after reset. -/
  nInit : Nat
  /-- `SPR`: steps per revolution. -/
  spr : Nat
  /-- `B`: serial bits per motor. -/
  b : Nat
  /-- `CYCLE`: driver-mode cycle length. -/
  cycle : Nat
  /-- `PHASE_TABLE`: CYCLE entries of 8 bits. -/
  phaseTable : List Pattern
  /-- `ALWAYS_FULL_FRAME`: every frame transmits all N motors. -/
  alwaysFullFrame : Bool
  deriving DecidableEq, Repr

/-- The levels of the input ports in one cycle (R30). -/
structure Input where
  /-- `rst`: synchronous reset, active high. -/
  rst : Bool
  /-- `now_us`: the host's microsecond time. -/
  now : Time
  /-- `cmd_valid`: a command word is offered. -/
  cmdValid : Bool
  /-- `cmd_word`: the offered word. -/
  cmdWord : Cmd
  deriving DecidableEq, Repr, Inhabited

/-- DESIGN CHOICE (log entry 3): the configuration of `State.reset`. It is configuration T1 of
95_test_vectors.md section 2; the spec leaves CYCLE and PHASE_TABLE open (D25) and bounds the rest (R1). -/
def Config.t1 : Config where
  nmax := 8
  nInit := 3
  spr := 200
  b := 4
  cycle := 4
  phaseTable := [0x01#8, 0x02#8, 0x04#8, 0x08#8]
  alwaysFullFrame := false

/-- The free value (log entry 2): what the host drives in a cycle for which the state lists no sample.
It has no body, so nothing can be proved of it. -/
opaque Config.freeInput : Nat → Input

/-- The open parameter `T_CLK_SYS` (R155, D27, log entry 7): the period of `clk_sys`, in a unit the
system chooses. No rule reads it. -/
opaque Config.tClkSys : Nat

end Sys2Proof
end

