-- ==== Sys2Proof/Syntax.lean ====
section
/-! DEFINITION. The commands of HS-CORE (30_encoding.md R49) and the lines of its assembler (R58, R59). -/

namespace Sys2Proof

/-- One constructor per row of spec/opcode_table.json. Fields that R49 marks unused are no operands:
any value in them gives the same behaviour (R53). -/
inductive Instr where
  /-- MOVE_ONE: F16 = motor index, F32 = signed delta (R98). -/
  | moveOne (idx : Idx) (delta : Counter)
  /-- MOVE_MANY: F16 = length L of the delta sequence (R103). -/
  | moveMany (len : Idx)
  /-- HOME: no operands (R104). -/
  | home
  /-- WRITE_DELTA: F16 = motor index, F32 = signed delta (R102). -/
  | writeDelta (idx : Idx) (delta : Counter)
  /-- SET_SPEED_RPM: F32 = rpm, unsigned (R90). -/
  | setSpeedRpm (rpm : Word)
  /-- SET_SPEED_RAD: F32 = rad/s, unsigned (R91). -/
  | setSpeedRad (rad : Word)
  /-- RESIZE: F16 = new motor count (R118). -/
  | resize (count : Idx)
  /-- GET_MOTOR_COUNT: no operands (R121). -/
  | getMotorCount
  /-- READ_POS: F16 = motor index (R122). -/
  | readPos (idx : Idx)
  deriving DecidableEq, Repr

/-- One line of the assembler, with its operands as the integers the line writes (R58), and the
pseudo-instruction MOVE_MANY_V (R59). -/
inductive AsmLine where
  | moveOne (idx delta : Int)
  | moveMany (len : Int)
  | home
  | writeDelta (idx delta : Int)
  | setSpeedRpm (rpm : Int)
  | setSpeedRad (rad : Int)
  | resize (count : Int)
  | getMotorCount
  | readPos (idx : Int)
  | moveManyV (deltas : List Int)
  deriving DecidableEq, Repr

end Sys2Proof
end

