-- ==== Sys2Proof/WellFormed.lean ====
section
/-! DEFINITION. What is well formed: a configuration (R1, R2) and an assembler line (R58, R59).
A command needs no check of its own: every operand of `Instr` is a bit vector of its field's width, so
every `Instr` is encodable (R48, R52). -/

namespace Sys2Proof

/-- The bounds of the table of R1; a configuration that violates any of them is ill-formed (R2). -/
abbrev Config.WellFormed (c : Config) : Prop :=
  (1 ≤ c.nmax ∧ c.nmax ≤ 65535) ∧
  (1 ≤ c.nInit ∧ c.nInit ≤ c.nmax) ∧
  (1 ≤ c.spr ∧ c.spr ≤ 2 ^ 32 - 1) ∧
  (1 ≤ c.b ∧ c.b ≤ 8) ∧
  (1 ≤ c.cycle ∧ c.cycle ≤ 256) ∧
  c.phaseTable.length = c.cycle

/-- "an F16 operand must lie in 0..65535" (R58). -/
abbrev FitsF16 (x : Int) : Prop := 0 ≤ x ∧ x ≤ 65535

/-- "The signed F32 operand of MOVE_ONE and WRITE_DELTA must lie in −2^31..2^31−1" (R58). -/
abbrev FitsS32 (x : Int) : Prop := -2 ^ 31 ≤ x ∧ x ≤ 2 ^ 31 - 1

/-- "an unsigned F32 operand must lie in 0..2^32−1" (R58). -/
abbrev FitsU32 (x : Int) : Prop := 0 ≤ x ∧ x ≤ 2 ^ 32 - 1

/-- The operand ranges of R58; "an assembler refuses any other value". For MOVE_MANY_V every delta fits
its WRITE_DELTA and the length fits the MOVE_MANY of the expansion (R59). -/
def AsmLine.wellFormed : AsmLine → Bool
  | .moveOne idx delta => decide (FitsF16 idx) && decide (FitsS32 delta)
  | .moveMany len => decide (FitsF16 len)
  | .home => true
  | .writeDelta idx delta => decide (FitsF16 idx) && decide (FitsS32 delta)
  | .setSpeedRpm rpm => decide (FitsU32 rpm)
  | .setSpeedRad rad => decide (FitsU32 rad)
  | .resize count => decide (FitsF16 count)
  | .getMotorCount => true
  | .readPos idx => decide (FitsF16 idx)
  | .moveManyV deltas => decide (deltas.length ≤ 65535) && deltas.all fun d => decide (FitsS32 d)

end Sys2Proof
end

