-- ==== Sys2Proof/Decode.lean ====
section
/-! DEFINITION. The command decoder (R48 to R55), the encoder written from the same table, and the
assembler lines' words (R58, R59). -/

namespace Sys2Proof

/-- `cmd[63:56]` (R48). -/
def opField (w : Cmd) : BitVec 8 := w.extractLsb' 56 8

/-- `cmd[55:48]` (R48). -/
def rsvField (w : Cmd) : BitVec 8 := w.extractLsb' 48 8

/-- `cmd[47:32]` (R48). -/
def f16Field (w : Cmd) : Idx := w.extractLsb' 32 16

/-- `cmd[31:0]` (R48). -/
def f32Field (w : Cmd) : BitVec 32 := w.extractLsb' 0 32

/-- `{OP[7:0], RSV[7:0], F16[15:0], F32[31:0]}` (R48). -/
def packCmd (op rsv : BitVec 8) (f16 : Idx) (f32 : BitVec 32) : Cmd := op ++ rsv ++ f16 ++ f32

/-- Why a word is illegal (R51). -/
inductive Illegal where
  /-- RSV is not 0. -/
  | reservedNotZero
  /-- OP is not in the table of R49. -/
  | unknownOpcode
  deriving DecidableEq, Repr

/-- The decoder of R51, total on the 2^64 words (R54). -/
def decode (w : Cmd) : Except Illegal Instr :=
  if rsvField w ≠ 0#8 then .error .reservedNotZero
  else
    match (opField w).toNat with
    | 0x01 => .ok (.moveOne (f16Field w) (f32Field w))
    | 0x02 => .ok (.moveMany (f16Field w))
    | 0x03 => .ok .home
    | 0x04 => .ok (.writeDelta (f16Field w) (f32Field w))
    | 0x05 => .ok (.setSpeedRpm (f32Field w))
    | 0x06 => .ok (.setSpeedRad (f32Field w))
    | 0x07 => .ok (.resize (f16Field w))
    | 0x08 => .ok .getMotorCount
    | 0x09 => .ok (.readPos (f16Field w))
    | _ => .error .unknownOpcode

/-- The word of a command: RSV and unused fields assemble as 0 (R58). -/
def encode : Instr → Cmd
  | .moveOne idx delta => packCmd 0x01#8 0#8 idx delta
  | .moveMany len => packCmd 0x02#8 0#8 len 0#32
  | .home => packCmd 0x03#8 0#8 0#16 0#32
  | .writeDelta idx delta => packCmd 0x04#8 0#8 idx delta
  | .setSpeedRpm rpm => packCmd 0x05#8 0#8 0#16 rpm
  | .setSpeedRad rad => packCmd 0x06#8 0#8 0#16 rad
  | .resize count => packCmd 0x07#8 0#8 count 0#32
  | .getMotorCount => packCmd 0x08#8 0#8 0#16 0#32
  | .readPos idx => packCmd 0x09#8 0#8 idx 0#32

/-- The commands a line stands for: itself, or for MOVE_MANY_V the L WRITE_DELTAs followed by
MOVE_MANY L (R59). -/
def AsmLine.instrs : AsmLine → List Instr
  | .moveOne idx delta => [.moveOne (BitVec.ofInt 16 idx) (BitVec.ofInt 32 delta)]
  | .moveMany len => [.moveMany (BitVec.ofInt 16 len)]
  | .home => [.home]
  | .writeDelta idx delta => [.writeDelta (BitVec.ofInt 16 idx) (BitVec.ofInt 32 delta)]
  | .setSpeedRpm rpm => [.setSpeedRpm (BitVec.ofInt 32 rpm)]
  | .setSpeedRad rad => [.setSpeedRad (BitVec.ofInt 32 rad)]
  | .resize count => [.resize (BitVec.ofInt 16 count)]
  | .getMotorCount => [.getMotorCount]
  | .readPos idx => [.readPos (BitVec.ofInt 16 idx)]
  | .moveManyV deltas =>
    (deltas.zipIdx.map fun (d, k) => .writeDelta (BitVec.ofNat 16 k) (BitVec.ofInt 32 d)) ++
      [.moveMany (BitVec.ofNat 16 deltas.length)]

/-- The words of a line; none where the assembler refuses an operand (R58). -/
def assemble (l : AsmLine) : Option (List Cmd) :=
  if l.wellFormed then some (l.instrs.map encode) else none

/-- What the decoder reads from a row's bits. The table numbers the bits of the one 64-bit word as R48
does; bits above `nbits` are 0 (log entry 13). -/
def decodeTableWord (nbits w : Nat) : Option Instr :=
  (decode (BitVec.ofNat 64 (w % 2 ^ nbits))).toOption

end Sys2Proof
end

