-- ==== Sys2Proof/Machine/Speed.lean ====
section
/-! DEFINITION. The step delay from a speed (43_timing_gate.md R88, R89). It stands before the state
because reset reads it (R141). -/

namespace Sys2Proof.Machine

/-- `delay_rpm(r) = (60_000_000 udiv SPR) udiv r` (R88). -/
def delayRpm (c : Config) (r : Word) : Word :=
  BitVec.ofNat 32 (60000000 / c.spr / r.toNat)

/-- `delay_rad(r) = (6_283_185 udiv SPR) udiv r` (R89); the constant is the spec's (D16), which it marks as general
knowledge (PRESUMED, log entry 14). -/
def delayRad (c : Config) (r : Word) : Word :=
  BitVec.ofNat 32 (6283185 / c.spr / r.toNat)

/-- The speed construction sets: "default speed (60 rpm-equivalent)" (R18, R141). -/
def defaultRpm : Word := 60#32

end Sys2Proof.Machine
end

