-- ==== Sys2Proof/Machine/State.lean ====
section
/-! DEFINITION. The state of HS-CORE (10_state.md), why a step can stop, and the state after reset
(70_reset_and_hazards.md R141). -/

namespace Sys2Proof.Machine

/-- The state register `ST`, thirteen values (R22). -/
inductive Fsm where
  | idle | done | moStep | mmPass | mmCheck | gate
  | latchLo | load | clkLo | dataSet | clkHi | latchHi | latchEnd
  deriving DecidableEq, Repr

/-- `MODE` (R24): what MM_PASS works on. -/
inductive Mode where
  | many | home
  deriving DecidableEq, Repr

/-- `RET` (R27): the state a frame returns to. -/
inductive Ret where
  | moStep | mmCheck
  deriving DecidableEq, Repr

/-- The three pins (R7, R21). -/
inductive Pin where
  | data | clk | latch
  deriving DecidableEq, Repr

/-- One pin write event `(P, v)` of the pin trace (R31). -/
structure PinEvent where
  pin : Pin
  level : Bool
  deriving DecidableEq, Repr

/-- Why the machine stops with a fault. -/
inductive Fault where
  /-- An array was indexed at or beyond its length: raised by `withEntry` and by MOVE_MANY's copy. R37 says
  that such an index never reaches an array and that no rule defines what the access would return. Safe;
  no state that meets `State.Inv` raises it (log entry 6). -/
  | indexOutOfRange
  /-- A phase index selected no entry of PHASE_TABLE: raised by state LOAD. Only an ill-formed configuration
  has such an index (R2, R62). Safe (log entry 6). -/
  | romIndexOutOfRange
  deriving DecidableEq, Repr

/-- Why the machine gives a step no meaning. -/
inductive Refusal where
  /-- An instruction that has no meaning yet: raised by an arm of `exec`. Safe; no arm raises it. -/
  | notModelled (mnemonic : String)
  /-- The configuration violates a bound of R1: raised by `step`. R2: "a model must refuse it rather than run
  it". Safe (log entry 5). -/
  | illFormedConfig
  deriving DecidableEq, Repr

/-- The state of HS-CORE: the configuration record, the architectural state and the sequencer state of R13,
then the model's own fields for the host's inputs and for the observation of the outputs. -/
structure State where
  /-- The configuration record (R1, R13 (a)); never written (R34). -/
  cfg : Config
  /-- `N`, the motor count (R14). -/
  n : Idx
  /-- `POS[0..NMAX−1]`, the position counters (R15). -/
  pos : List Counter
  /-- `DBUF[0..NMAX−1]`, the delta buffer (R17). -/
  dbuf : List Counter
  /-- `STEP_DELAY` (R18). -/
  stepDelay : Word
  /-- `LAST`, the watermark of the timing gate (R19). -/
  last : Time
  /-- `RESP_STATUS` (R20). -/
  respStatus : BitVec 4
  /-- `RESP_DATA` (R20). -/
  respData : Word
  /-- `DATA_Q` (R21). -/
  dataQ : Bool
  /-- `CLK_Q` (R21). -/
  clkQ : Bool
  /-- `LATCH_Q` (R21). -/
  latchQ : Bool
  /-- `ST` (R22). -/
  st : Fsm
  /-- `MO_IDX` (R23). -/
  moIdx : Idx
  /-- `MO_REM` (R23). -/
  moRem : Counter
  /-- `MODE` (R24). -/
  mode : Mode
  /-- `M`, the number of motors a pass considers (R24). -/
  m : Idx
  /-- `REM[0..NMAX−1]`, the remaining deltas of MOVE_MANY (R25). -/
  rem : List Counter
  /-- `I`, the motor index of the pass (R26). -/
  i : Idx
  /-- `ZC`, the zero-counter of the pass (R26). -/
  zc : Idx
  /-- `MAXCH`, the highest index changed in the pass (R26). -/
  maxch : Idx
  /-- `A`, the active count of the requested frame (R27). -/
  a : Idx
  /-- `RET`, where the frame returns to (R27). -/
  ret : Ret
  /-- `FI`, the motor being shifted (R28). -/
  fi : Idx
  /-- `BI`, the bit being shifted (R28). -/
  bi : BitVec 3
  /-- `SR`, the pattern being shifted (R28). -/
  sr : Pattern
  /-- MODEL's own (log entry 1): the input samples of the coming cycles, the next one first. -/
  inputs : List Input
  /-- MODEL's own (log entry 2): which free input the next cycle without a listed sample takes. -/
  freeTick : Nat
  /-- MODEL's own (log entry 8): the pin trace since the last reset, oldest event first (R31). -/
  pinTrace : List PinEvent
  /-- MODEL's own (log entry 8): the gate-open times since the last reset, oldest first (R86). -/
  gateOpens : List Time
  /-- MODEL's own (log entry 8): the pin events made before the last reset. -/
  pastPins : List PinEvent
  /-- MODEL's own (log entry 8): the gate-open times made before the last reset. -/
  pastOpens : List Time
  deriving DecidableEq, Repr

/-- The state that reset with configuration `c` leaves when `now` is the time of its last cycle (R141); the
model's own fields are empty. -/
def State.resetOf (c : Config) (now : Time) : State where
  cfg := c
  n := BitVec.ofNat 16 c.nInit
  pos := List.replicate c.nmax 0#32
  dbuf := List.replicate c.nmax 0#32
  stepDelay := delayRpm c defaultRpm
  last := now
  respStatus := 0#4
  respData := 0#32
  dataQ := false
  clkQ := false
  latchQ := false
  st := .idle
  moIdx := 0#16
  moRem := 0#32
  mode := .many
  m := 0#16
  rem := List.replicate c.nmax 0#32
  i := 0#16
  zc := 0#16
  maxch := 0#16
  a := 0#16
  ret := .mmCheck
  fi := 0#16
  bi := 0#3
  sr := 0#8
  inputs := []
  freeTick := 0
  pinTrace := []
  gateOpens := []
  pastPins := []
  pastOpens := []

/-- The machine right after reset (R141, R143). DESIGN CHOICE: configuration T1 (log entry 3) and time 0
in the reset cycle (log entry 4). -/
def State.reset : State := State.resetOf Config.t1 0#64

end Sys2Proof.Machine
end

