-- ==== Sys2Proof/Machine/Flags.lean ====
section
/-! DEFINITION. HS-CORE has no condition codes (R33). Its flags are the status of the response (R124) and
the output ports derived from the registers (R32). -/

namespace Sys2Proof.Machine

/-- The five status codes of R124; codes 5 to 15 are never produced. -/
inductive Status where
  | ok | errIllegal | errSpeed | errResize | errRange
  deriving DecidableEq, Repr

/-- The code of a status in RESP_STATUS (R124). -/
def statusCode : Status → BitVec 4
  | .ok => 0#4
  | .errIllegal => 1#4
  | .errSpeed => 2#4
  | .errResize => 3#4
  | .errRange => 4#4

/-- The output ports in one cycle (R30). -/
structure Outputs where
  cmdReady : Bool
  busy : Bool
  respValid : Bool
  respStatus : BitVec 4
  respData : Word
  dataO : Bool
  clkO : Bool
  latchO : Bool
  deriving DecidableEq, Repr

/-- The outputs are functions of the registers alone (R30, R32). -/
def State.outputs (s : State) : Outputs where
  cmdReady := s.st == .idle
  busy := s.st != .idle
  respValid := s.st == .done
  respStatus := s.respStatus
  respData := s.respData
  dataO := s.dataQ
  clkO := s.clkQ
  latchO := s.latchQ

/-- The registered level of a pin (R21). -/
def State.pinLevel (s : State) : Pin → Bool
  | .data => s.dataQ
  | .clk => s.clkQ
  | .latch => s.latchQ

/-- How long `k` cycles take, in the unit of `T_CLK_SYS` (R155): each lasts one period. -/
def cyclesDuration (k : Nat) : Nat := k * Config.tClkSys

end Sys2Proof.Machine
end

