-- ==== Sys2Proof/Machine/Operands.lean ====
section
/-! DEFINITION. The integer notation of R6 and the operand forms of R52: signed and unsigned readings,
wrap32, the phase function and the active-count rule. -/

namespace Sys2Proof.Machine

/-- `s32(v)`: the two's-complement reading of a 32-bit pattern (R6, R52). -/
def s32 (v : Counter) : Int := v.toInt

/-- `wrap32(x)`: the 32-bit pattern congruent to `x` modulo 2^32 (R6). -/
def wrap32 (x : Int) : Counter := BitVec.ofInt 32 x

/-- `emod(a, m)`: the Euclidean remainder, 0 ≤ r < m (R6). -/
def emod (a : Int) (m : Nat) : Nat := (a % (m : Int)).toNat

/-- The direction in which a remaining displacement is worked off: +1 above zero, −1 below (R99, R106). -/
def unitStep (d : Counter) : Int := if 0 < s32 d then 1 else -1

/-- `ROM(k)`: entry `k` of PHASE_TABLE, none outside 0..CYCLE−1 (R61). -/
def rom (c : Config) (k : Nat) : Option Pattern := c.phaseTable[k]?

/-- `phase(p) = ROM(emod(p, CYCLE))` (R62). -/
def phase (c : Config) (p : Counter) : Option Pattern := rom c (emod (s32 p) c.cycle)

/-- The effective active count of a frame (R74): all motors if the argument is 0 or exceeds N, or if the
configuration says so. -/
def activeCount (c : Config) (a n : Idx) : Idx :=
  if c.alwaysFullFrame = true ∨ a = 0#16 ∨ n.toNat < a.toNat then n else a

/-- A motor index is in range if it is below the motor count (R98, R102, R122). -/
abbrev State.motorInRange (s : State) (idx : Idx) : Prop := idx.toNat < s.n.toNat

end Sys2Proof.Machine
end

