-- ==== Sys2Proof/Machine/Ops.lean ====
section
/-! DEFINITION. The shared operations: the response and error primitives (R8), the pin primitive (R7), the
frame request (R81), array access (R37), the reset cycle (R141) and taking a cycle's input (R30). -/

namespace Sys2Proof.Machine

/-- The outcome of one cycle. -/
abbrev Result := Host.Outcome State Fault Refusal

/-- `ST <- S` (R7). -/
def State.goto (s : State) (st : Fsm) : State := { s with st := st }

/-- `respond(S, d)`: `RESP_STATUS <- S; RESP_DATA <- d; ST <- DONE` (R8). -/
def State.respond (s : State) (status : Status) (data : Word) : State :=
  { s with respStatus := statusCode status, respData := data, st := .done }

/-- `raise E`: `respond(E, 0)` and nothing else (R8). HS-CORE has no trap: this is its whole exception entry,
and the return from it is DONE's step to IDLE (R56, R131, R132). -/
def State.raise (s : State) (e : Status) : State := s.respond e 0#32

/-- The return from `raise`, and of every command: `DONE` steps to `IDLE` (R56). -/
def State.finish (s : State) : State := s.goto .idle

/-- `pin(P) <- v`: writes the pin's register and appends the event to the pin trace, even when the pin
already has that level (R7, R31). -/
def State.drivePin (s : State) (p : Pin) (v : Bool) : State :=
  { s with
    dataQ := if p = .data then v else s.dataQ
    clkQ := if p = .clk then v else s.clkQ
    latchQ := if p = .latch then v else s.latchQ
    pinTrace := s.pinTrace ++ [⟨p, v⟩] }

/-- A frame request: writes the active count and the return state and goes to GATE (R81). -/
def State.requestFrame (s : State) (a : Idx) (ret : Ret) : State :=
  { s with a := a, ret := ret, st := .gate }

/-- Start of a pass: `I <- 0; ZC <- 0; MAXCH <- 0; ST <- MM_PASS` (R103, R104, R108). -/
def State.startPass (s : State) : State :=
  { s with i := 0#16, zc := 0#16, maxch := 0#16, st := .mmPass }

/-- `POS[k] <- v` (R7). -/
def State.setPos (s : State) (k : Idx) (v : Counter) : State :=
  { s with pos := s.pos.set k.toNat v }

/-- `DBUF[k] <- v` (R7). -/
def State.setDbuf (s : State) (k : Idx) (v : Counter) : State :=
  { s with dbuf := s.dbuf.set k.toNat v }

/-- `REM[k] <- v` (R7). -/
def State.setRem (s : State) (k : Idx) (v : Counter) : State :=
  { s with rem := s.rem.set k.toNat v }

/-- Access to element `k` of an array: goes on with the element, faults where the array has none (R37). -/
def withEntry (xs : List Counter) (k : Idx) (f : Counter → Result) : Result :=
  match xs[k.toNat]? with
  | some v => f v
  | none => .fault .indexOutOfRange

/-- The state `RET` names (R80). -/
def retState : Ret → Fsm
  | .moStep => .moStep
  | .mmCheck => .mmCheck

/-- A cycle with `rst = 1`, whatever ST is (R141). The pins fall without a pin event (R144): the traces so far
become past traces, and nothing is added to them. -/
def State.resetCycle (s : State) (now : Time) : State :=
  { State.resetOf s.cfg now with
    inputs := s.inputs
    freeTick := s.freeTick
    pastPins := s.pastPins ++ s.pinTrace
    pastOpens := s.pastOpens ++ s.gateOpens }

/-- The input sample of the coming cycle: the first listed one, else the free value (R30, log entries 1, 2). -/
def State.nextInput (s : State) : Input :=
  match s.inputs with
  | [] => Config.freeInput s.freeTick
  | x :: _ => x

/-- The state once the coming cycle's sample is taken. -/
def State.dropInput (s : State) : State :=
  match s.inputs with
  | [] => { s with freeTick := s.freeTick + 1 }
  | _ :: rest => { s with inputs := rest }

end Sys2Proof.Machine
end

