-- ==== Sys2Proof/Machine/Configure.lean ====
section
/-! DEFINITION. The configuration and observation commands (45_config.md): RESIZE, GET_MOTOR_COUNT, READ_POS. -/

namespace Sys2Proof.Machine

/-- RESIZE (R118): fails for 0 and above NMAX with nothing else changed (R119, R127); else zeroes every entry
of POS and DBUF, even when the count stays the same. -/
def execResize (count : Idx) (s : State) : Result :=
  if count = 0#16 ∨ s.cfg.nmax < count.toNat then .next (s.respond .errResize 0#32)
  else
    .next ({ s with
      n := count
      pos := List.replicate s.cfg.nmax 0#32
      dbuf := List.replicate s.cfg.nmax 0#32 }.respond .ok 1#32)

/-- GET_MOTOR_COUNT (R121): the data is `zext_32(N)`. -/
def execGetMotorCount (s : State) : Result :=
  .next (s.respond .ok (s.n.zeroExtend 32))

/-- READ_POS (R122): the raw 32-bit pattern of the counter. -/
def execReadPos (idx : Idx) (s : State) : Result :=
  if s.motorInRange idx then withEntry s.pos idx fun p => .next (s.respond .ok p)
  else .next (s.raise .errRange)

end Sys2Proof.Machine
end

