-- ==== Sys2Proof/Machine/Motion.lean ====
section
/-! DEFINITION. The motion commands' acceptance actions (44_motion.md): MOVE_ONE, WRITE_DELTA, MOVE_MANY,
HOME. What they set in motion runs in Machine/Sequencer.lean and Machine/Frame.lean. -/

namespace Sys2Proof.Machine

/-- MOVE_ONE (R98). An index out of range is silently ignored, with status OK (R101). -/
def execMoveOne (idx : Idx) (delta : Counter) (s : State) : Result :=
  if s.motorInRange idx then .next { s with moIdx := idx, moRem := delta, st := .moStep }
  else .next (s.respond .ok 0#32)

/-- WRITE_DELTA (R102). -/
def execWriteDelta (idx : Idx) (delta : Counter) (s : State) : Result :=
  if s.motorInRange idx then
    withEntry s.dbuf idx fun _ => .next ((s.setDbuf idx delta).respond .ok 0#32)
  else .next (s.raise .errRange)

/-- `for i in 0 .. L-1: REM[i] <- DBUF[i]`, one indivisible update (R40, R103). -/
def copyDeltas (dbuf rem : List Counter) (len : Nat) : List Counter :=
  dbuf.take len ++ rem.drop len

/-- MOVE_MANY (R103). -/
def execMoveMany (len : Idx) (s : State) : Result :=
  if s.n.toNat < len.toNat then .next (s.raise .errRange)
  else if s.dbuf.length < len.toNat ∨ s.rem.length < len.toNat then .fault .indexOutOfRange
  else
    .next ({ s with
      rem := copyDeltas s.dbuf s.rem len.toNat
      mode := .many
      m := len }).startPass

/-- HOME (R104). -/
def execHome (s : State) : Result :=
  .next ({ s with mode := .home, m := s.n }).startPass

end Sys2Proof.Machine
end

