-- ==== Sys2Proof/Machine/SetSpeed.lean ====
section
/-! DEFINITION. The speed commands (43_timing_gate.md): SET_SPEED_RPM and SET_SPEED_RAD. -/

namespace Sys2Proof.Machine

/-- SET_SPEED_RPM (R90): a zero operand raises ERR_SPEED and keeps STEP_DELAY (R126). -/
def execSetSpeedRpm (rpm : Word) (s : State) : Result :=
  if rpm = 0#32 then .next (s.raise .errSpeed)
  else .next ({ s with stepDelay := delayRpm s.cfg rpm }.respond .ok 0#32)

/-- SET_SPEED_RAD (R91): a zero operand raises ERR_SPEED and keeps STEP_DELAY (R126). -/
def execSetSpeedRad (rad : Word) (s : State) : Result :=
  if rad = 0#32 then .next (s.raise .errSpeed)
  else .next ({ s with stepDelay := delayRad s.cfg rad }.respond .ok 0#32)

end Sys2Proof.Machine
end

