-- ==== Sys2Proof/Machine/Dispatch.lean ====
section
/-! DEFINITION. The acceptance action of each command: one arm per constructor of `Instr` (R49, R50). -/

namespace Sys2Proof.Machine

def exec (i : Instr) (s : State) : Host.Outcome State Fault Refusal :=
  match i with
  | .moveOne idx delta => Sys2Proof.Machine.execMoveOne idx delta s
  | .moveMany len => Sys2Proof.Machine.execMoveMany len s
  | .home => Sys2Proof.Machine.execHome s
  | .writeDelta idx delta => Sys2Proof.Machine.execWriteDelta idx delta s
  | .setSpeedRpm rpm => Sys2Proof.Machine.execSetSpeedRpm rpm s
  | .setSpeedRad rad => Sys2Proof.Machine.execSetSpeedRad rad s
  | .resize count => Sys2Proof.Machine.execResize count s
  | .getMotorCount => Sys2Proof.Machine.execGetMotorCount s
  | .readPos idx => Sys2Proof.Machine.execReadPos idx s

end Sys2Proof.Machine
end

