-- ==== Sys2Proof/Machine/Frame.lean ====
section
/-! DEFINITION. The state rules of a frame: the timing gate (43_timing_gate.md R85), the frame transmitter
(42_frame.md R77 to R80) and the bit serializer (41_serializer.md R69 to R71). -/

namespace Sys2Proof.Machine

/-- `elapsed := (now - LAST) mod 2^64` (R85). -/
def elapsed (s : State) (now : Time) : Time := now - s.last

/-- State GATE (R85): opens when STEP_DELAY has elapsed and records the same sample of `now`; else waits. -/
def gate (now : Time) (s : State) : Result :=
  if s.stepDelay.toNat ≤ (elapsed s now).toNat then
    .next { s with last := now, st := .latchLo, gateOpens := s.gateOpens ++ [now] }
  else .next s

/-- State LATCH_LO (R77). -/
def latchLo (s : State) : Result :=
  .next { s.drivePin .latch false with fi := activeCount s.cfg s.a s.n - 1#16, st := .load }

/-- State LOAD (R78). -/
def load (s : State) : Result :=
  withEntry s.pos s.fi fun p =>
    match phase s.cfg p with
    | some pattern => .next { s with sr := pattern, bi := 0#3, st := .clkLo }
    | none => .fault .romIndexOutOfRange

/-- State CLK_LO (R69). -/
def clkLo (s : State) : Result := .next ((s.drivePin .clk false).goto .dataSet)

/-- State DATA_SET (R70). -/
def dataSet (s : State) : Result :=
  .next ((s.drivePin .data (s.sr.getLsbD s.bi.toNat)).goto .clkHi)

/-- State CLK_HI (R71): the next bit, else the next motor down, else the end of shifting. -/
def clkHi (s : State) : Result :=
  if s.bi.toNat + 1 < s.cfg.b then .next { s.drivePin .clk true with bi := s.bi + 1#3, st := .clkLo }
  else if s.fi ≠ 0#16 then .next { s.drivePin .clk true with fi := s.fi - 1#16, st := .load }
  else .next ((s.drivePin .clk true).goto .latchHi)

/-- State LATCH_HI (R79). -/
def latchHi (s : State) : Result := .next ((s.drivePin .latch true).goto .latchEnd)

/-- State LATCH_END (R80). -/
def latchEnd (s : State) : Result := .next ((s.drivePin .latch false).goto (retState s.ret))

end Sys2Proof.Machine
end

