-- ==== Sys2Proof/Machine/Sequencer.lean ====
section
/-! DEFINITION. The state rules of the motion sequencer (44_motion.md): MO_STEP, MM_PASS, MM_CHECK. -/

namespace Sys2Proof.Machine

/-- State MO_STEP (R99): completes when the remaining delta is 0, else steps the motor and its remaining delta
by one and requests a frame through this motor. -/
def moStep (s : State) : Result :=
  if s32 s.moRem = 0 then .next (s.respond .ok 0#32)
  else
    withEntry s.pos s.moIdx fun p =>
      .next (({ s with moRem := wrap32 (s32 s.moRem - unitStep s.moRem) }.setPos s.moIdx
        (wrap32 (s32 p + unitStep s.moRem))).requestFrame (s.moIdx + 1#16) .moStep)

/-- `update_many(k)`, one motor of a MOVE_MANY pass (R106). -/
def updateMany (k : Idx) (s : State) : Result :=
  withEntry s.rem k fun r =>
    if s32 r = 0 then .next { s with zc := s.zc + 1#16 }
    else
      withEntry s.pos k fun p =>
        .next { (s.setRem k (wrap32 (s32 r - unitStep r))).setPos k (wrap32 (s32 p + unitStep r)) with
          maxch := k }

/-- `update_home(k)`, one motor of a HOME pass: the counter steps toward zero (R107). -/
def updateHome (k : Idx) (s : State) : Result :=
  withEntry s.pos k fun p =>
    if s32 p = 0 then .next { s with zc := s.zc + 1#16 }
    else .next { s.setPos k (wrap32 (s32 p - unitStep p)) with maxch := k }

/-- State MM_PASS (R105): one motor a cycle, then the frame of the pass. -/
def mmPass (s : State) : Result :=
  if s.i.toNat < s.m.toNat then
    match s.mode with
    | .many => updateMany s.i { s with i := s.i + 1#16 }
    | .home => updateHome s.i { s with i := s.i + 1#16 }
  else .next (s.requestFrame (s.maxch + 1#16) .mmCheck)

/-- State MM_CHECK (R108): the exit test after the frame, so that the last pass sends a refresh frame. -/
def mmCheck (s : State) : Result :=
  if s.zc = s.m then .next (s.respond .ok 0#32) else .next s.startPass

end Sys2Proof.Machine
end

