-- ==== Sys2Proof/Machine/Cycle.lean ====
section
/-! DEFINITION. One clock cycle: reset first (R130), then the rule of the current state (R22). -/

namespace Sys2Proof.Machine

/-- A taken word: decoded, then its acceptance action; an illegal word raises ERR_ILLEGAL (R50, R51, R125). -/
def accept (w : Cmd) (s : State) : Result :=
  match decode w with
  | .ok i => exec i s
  | .error _ => .next (s.raise .errIllegal)

/-- State IDLE (R50): takes an offered word, else changes nothing. -/
def idle (x : Input) (s : State) : Result :=
  if x.cmdValid = true then accept x.cmdWord s else .next s

/-- One cycle with input sample `x`. -/
def cycle (x : Input) (s : State) : Result :=
  if x.rst = true then .next (s.resetCycle x.now)
  else
    match s.st with
    | .idle => idle x s
    | .done => .next s.finish
    | .moStep => moStep s
    | .mmPass => mmPass s
    | .mmCheck => mmCheck s
    | .gate => gate x.now s
    | .latchLo => latchLo s
    | .load => load s
    | .clkLo => clkLo s
    | .dataSet => dataSet s
    | .clkHi => clkHi s
    | .latchHi => latchHi s
    | .latchEnd => latchEnd s

/-- The sample that offers word `w` on the command port, at the time of the watermark (log entry 9). -/
def offerSample (s : State) (w : Cmd) : Input :=
  { rst := false, now := s.last, cmdValid := true, cmdWord := w }

/-- The state whose next cycle takes word `w`: idle, with `w` offered first (log entry 9). -/
def offerWord (s : State) (w : Cmd) : State :=
  { s with st := .idle, inputs := offerSample s w :: s.inputs }

end Sys2Proof.Machine
end

