-- ==== Sys2Proof/Machine/Step.lean ====
section
/-! DEFINITION. The step: one `clk_sys` cycle of a well-formed configuration. -/

namespace Sys2Proof.Machine

/-- One step is one clock cycle with the next input sample (R9, R22); an ill-formed configuration is refused
(R2). -/
def step (s : State) : Host.Outcome State Fault Refusal :=
  if s.cfg.WellFormed then cycle s.nextInput s.dropInput else .refused .illFormedConfig

/-- `s` with the command word `w` offered on the command port in the very next cycle, in IDLE. The bits above
`nbits` are 0; a word has 64 bits (log entries 9, 13). -/
def State.withFetchWord (s : State) (nbits w : Nat) : State :=
  offerWord s (BitVec.ofNat 64 (w % 2 ^ nbits))

end Sys2Proof.Machine
end

