-- ==== Sys2Proof/Machine/Assembler.lean ====
section
/-! DEFINITION. The assembler's text form (30_encoding.md R58, R59): one command per line. What R58 does not
say of blanks, empty lines and letter case is log entry 12. -/

namespace Sys2Proof.Machine

/-- A blank between the parts of a line. -/
def isBlank (c : Char) : Bool := c == ' ' || c == '\t'

/-- A line without the comment that ';' starts (R58). -/
def stripComment (t : List Char) : List Char := t.takeWhile (· != ';')

/-- A text without the blanks at its two ends. -/
def trimText (t : List Char) : List Char :=
  (((t.dropWhile isBlank).reverse).dropWhile isBlank).reverse

/-- The parts of a text between commas. -/
def splitCommas : List Char → List (List Char)
  | [] => [[]]
  | c :: cs =>
    if c = ',' then [] :: splitCommas cs
    else
      match splitCommas cs with
      | [] => [[c]]
      | p :: ps => (c :: p) :: ps

/-- The value of a decimal digit. -/
def decDigit (c : Char) : Option Nat :=
  if '0' ≤ c ∧ c ≤ '9' then some (c.toNat - '0'.toNat) else none

/-- The value of a hexadecimal digit. -/
def hexDigit (c : Char) : Option Nat :=
  if '0' ≤ c ∧ c ≤ '9' then some (c.toNat - '0'.toNat)
  else if 'a' ≤ c ∧ c ≤ 'f' then some (c.toNat - 'a'.toNat + 10)
  else if 'A' ≤ c ∧ c ≤ 'F' then some (c.toNat - 'A'.toNat + 10)
  else none

/-- The digits of a number, most significant first, after a value read so far. -/
def digitsFrom (base : Nat) (digit : Char → Option Nat) : Nat → List Char → Option Nat
  | acc, [] => some acc
  | acc, c :: cs =>
    match digit c with
    | some d => digitsFrom base digit (acc * base + d) cs
    | none => none

/-- A number of at least one digit. -/
def parseDigits (base : Nat) (digit : Char → Option Nat) : List Char → Option Nat
  | [] => none
  | cs => digitsFrom base digit 0 cs

/-- An operand: "decimal integers (a leading `-` for negative) or `0x` hexadecimal" (R58). -/
def parseOperand : List Char → Option Int
  | '-' :: cs => (parseDigits 10 decDigit cs).map fun v => -(v : Int)
  | '0' :: 'x' :: cs => (parseDigits 16 hexDigit cs).map fun v => (v : Int)
  | cs => (parseDigits 10 decDigit cs).map fun v => (v : Int)

/-- The operands of a line, separated by commas (R58). -/
def parseOperands (t : List Char) : Option (List Int) :=
  if t = [] then some [] else (splitCommas t).mapM fun p => parseOperand (trimText p)

/-- A mnemonic of R49 or R59 with its used operands in the order F16, F32 (R58). -/
def lineOf (mnemonic : List Char) (ops : List Int) : Option AsmLine :=
  if mnemonic = "MOVE_ONE".toList then
    match ops with
    | [idx, delta] => some (.moveOne idx delta)
    | _ => none
  else if mnemonic = "MOVE_MANY".toList then
    match ops with
    | [len] => some (.moveMany len)
    | _ => none
  else if mnemonic = "HOME".toList then
    match ops with
    | [] => some .home
    | _ => none
  else if mnemonic = "WRITE_DELTA".toList then
    match ops with
    | [idx, delta] => some (.writeDelta idx delta)
    | _ => none
  else if mnemonic = "SET_SPEED_RPM".toList then
    match ops with
    | [rpm] => some (.setSpeedRpm rpm)
    | _ => none
  else if mnemonic = "SET_SPEED_RAD".toList then
    match ops with
    | [rad] => some (.setSpeedRad rad)
    | _ => none
  else if mnemonic = "RESIZE".toList then
    match ops with
    | [count] => some (.resize count)
    | _ => none
  else if mnemonic = "GET_MOTOR_COUNT".toList then
    match ops with
    | [] => some .getMotorCount
    | _ => none
  else if mnemonic = "READ_POS".toList then
    match ops with
    | [idx] => some (.readPos idx)
    | _ => none
  else if mnemonic = "MOVE_MANY_V".toList then some (.moveManyV ops)
  else none

/-- The words of one line of source text: none where the assembler refuses the line, no word for a line that
holds nothing but blanks and a comment (R58, R59, log entry 12). -/
def assembleText (line : String) : Option (List Cmd) :=
  let t := trimText (stripComment line.toList)
  if t = [] then some []
  else
    match parseOperands (trimText (t.dropWhile fun c => !isBlank c)) with
    | none => none
    | some ops => (lineOf (t.takeWhile fun c => !isBlank c) ops).bind assemble

end Sys2Proof.Machine
end

