-- ==== Sys2Proof/Safety.lean ====
section
/-! DEFINITION. The terms in which claims speak: the invariant of the machine, runs of steps, and what the spec
says a frame, a move and a homing leave behind. -/

namespace Sys2Proof.Machine

/-! ### The invariant -/

/-- `ST` is one of the eight states of a frame, from its request to its end (R81). -/
def Fsm.inFrame : Fsm → Bool
  | .gate | .latchLo | .load | .clkLo | .dataSet | .clkHi | .latchHi | .latchEnd => true
  | .idle | .done | .moStep | .mmPass | .mmCheck => false

/-- A MOVE_ONE is in progress: its own state, or a frame that returns to it (R99). -/
abbrev State.inMoveOne (s : State) : Prop := s.st = .moStep ∨ (s.st.inFrame = true ∧ s.ret = .moStep)

/-- A MOVE_MANY or HOME is in progress: its own states, or a frame that returns to them (R105, R108). -/
abbrev State.inPass (s : State) : Prop :=
  s.st = .mmPass ∨ s.st = .mmCheck ∨ (s.st.inFrame = true ∧ s.ret = .mmCheck)

/-- The arrays have NMAX entries (R15, R17, R25) and `N` is in 1..NMAX (R14). -/
abbrev State.ShapeOk (s : State) : Prop :=
  (1 ≤ s.n.toNat ∧ s.n.toNat ≤ s.cfg.nmax) ∧
  s.pos.length = s.cfg.nmax ∧ s.dbuf.length = s.cfg.nmax ∧ s.rem.length = s.cfg.nmax

/-- The sequencer's indices are below the motor count while they are in use (R37). -/
abbrev State.IndicesOk (s : State) : Prop :=
  (s.inMoveOne → s.moIdx.toNat < s.n.toNat) ∧
  (s.inPass → s.m.toNat ≤ s.n.toNat ∧ s.i.toNat ≤ s.m.toNat ∧ s.zc.toNat ≤ s.i.toNat ∧
    s.maxch.toNat < s.n.toNat) ∧
  (s.st.inFrame = true → 1 ≤ s.a.toNat ∧ s.a.toNat ≤ s.n.toNat) ∧
  (s.st = .load ∨ s.st = .clkLo ∨ s.st = .dataSet ∨ s.st = .clkHi → s.fi.toNat < s.n.toNat) ∧
  (s.st = .clkLo ∨ s.st = .dataSet ∨ s.st = .clkHi → s.bi.toNat < s.cfg.b)

/-- The invariant of the machine: a well-formed configuration (R2), arrays of the right length, a legal motor
count, a status code of R124, and indices in range. -/
abbrev State.Inv (s : State) : Prop :=
  s.cfg.WellFormed ∧ s.ShapeOk ∧ s.respStatus.toNat ≤ 4 ∧ s.IndicesOk

/-! ### Runs -/

/-- `k` steps of the machine. -/
def stepsTo (k : Nat) (s : State) : Result := Sys2Proof.core.run k s

/-- The samples of the next `k` cycles are listed and none of them asserts reset. -/
abbrev State.Quiet (s : State) (k : Nat) : Prop :=
  k ≤ s.inputs.length ∧ ∀ x ∈ s.inputs.take k, x.rst = false

/-- The next cycle offers word `w` with no reset. -/
abbrev State.Offers (s : State) (w : Cmd) : Prop :=
  s.nextInput.rst = false ∧ s.nextInput.cmdValid = true ∧ s.nextInput.cmdWord = w

/-- `t` is the state in which the command accepted in `s`'s next cycle completes, `k` cycles later: the first
state after `s` that is in DONE (R56). -/
abbrev CompletesAt (k : Nat) (s t : State) : Prop :=
  stepsTo k s = .next t ∧ t.st = .done ∧ 0 < k ∧
    ∀ j, 0 < j → j < k → ∀ u, stepsTo j s = .next u → u.st ≠ .done

/-- `s` with the first `k` samples of the endless supply `f` listed. -/
def State.feed (s : State) (f : Nat → Input) (k : Nat) : State :=
  { s with inputs := (List.range k).map f }

/-! ### What a frame puts on the pins -/

/-- `serialize(pattern, B)` (R66): for each bit, least significant first, clock low, data, clock high. -/
def serializePins (p : Pattern) (b : Nat) : List PinEvent :=
  (List.range b).flatMap fun k =>
    [⟨.clk, false⟩, ⟨.data, p.getLsbD k⟩, ⟨.clk, true⟩]

/-- The pattern of motor `k`; every entry below the motor count has one. -/
def patternOf (c : Config) (pos : List Counter) (k : Nat) : Pattern :=
  ((pos[k]?).bind (phase c)).getD 0#8

/-- The pin events of motors `count−1` down to 0. -/
def motorsPins (c : Config) (pos : List Counter) (count : Nat) : List PinEvent :=
  (List.range count).reverse.flatMap fun k => serializePins (patternOf c pos k) c.b

/-- The pin events of one frame with active count `a` (R76). -/
def framePins (c : Config) (n : Idx) (pos : List Counter) (a : Idx) : List PinEvent :=
  ⟨.latch, false⟩ :: motorsPins c pos (activeCount c a n).toNat ++ [⟨.latch, true⟩, ⟨.latch, false⟩]

/-- How many cycles a frame takes after its gate opens (R157). -/
def frameCycles (s : State) : Nat :=
  (activeCount s.cfg s.a s.n).toNat * (1 + 3 * s.cfg.b) + 3

/-- The level of pin `p` after the events `es`: that of its last event, or 0 before the first (R31). -/
def levelAfter (p : Pin) (es : List PinEvent) : Bool :=
  es.foldl (fun v e => if e.pin = p then e.level else v) false

/-! ### Net effects of motion -/

/-- The part of displacement `d` worked off after `j` unit steps: `sign(d)·min(j, |d|)`. -/
def workedOff (d : Int) (j : Nat) : Int := max (-(j : Int)) (min (j : Int) d)

/-- The counters after `j` passes toward the displacements `ds` of motors 0, 1, … (R106, R107, R109). -/
def countersAfter (pos : List Counter) (ds : List Int) (j : Nat) : List Counter :=
  List.zipWith (fun p d => wrap32 (s32 p + workedOff d j)) pos ds ++ pos.drop ds.length

/-- `K`, the largest |displacement|, 0 if there is none (R109, R110). -/
def largest (ds : List Int) : Nat := ds.foldr (fun d k => max d.natAbs k) 0

/-- The active count of pass `j`: 1 + the highest index whose |displacement| is at least `j`, or 1 if there is
none (R109). -/
def passCount (ds : List Int) (j : Nat) : Nat :=
  ((List.range ds.length).filter fun k => decide (j ≤ (ds.getD k 0).natAbs)).foldl max 0 + 1

/-- The pin events of passes 1 to K+1 and their frames (R109, R110). -/
def movePins (c : Config) (n : Idx) (pos : List Counter) (ds : List Int) : List PinEvent :=
  (List.range (largest ds + 1)).flatMap fun j =>
    framePins c n (countersAfter pos ds (j + 1)) (BitVec.ofNat 16 (passCount ds (j + 1)))

/-! ### Observations -/

/-- `s` with every sequencer register of R23 to R28 at its reset value: what a host can observe (R29). -/
def State.scrub (s : State) : State :=
  { s with
    moIdx := 0#16, moRem := 0#32, mode := .many, m := 0#16, rem := [], i := 0#16, zc := 0#16, maxch := 0#16,
    a := 0#16, ret := .mmCheck, fi := 0#16, bi := 0#3, sr := 0#8 }

end Sys2Proof.Machine
end

