-- ==== Sys2Proof/Certificates/Slice0/Obligations.lean ====
section
/-! DEFINITION. The statements about HS-CORE for the provers. Each docstring names the rule of spec/ it
formalises; a statement marked 'derived' rests on an inference the spec marks as its own, or on a choice of
the model that its docstring names. -/

open Sys2Proof Sys2Proof.Machine

/-! ### Encoding -/

/-- Decode and encode agree on every command with every operand (R48, R49, R58). -/
def Obligations.DecodeOfEncode : Prop :=
  ∀ i : Instr, decode (encode i) = .ok i

/-- R54: the legal words are exactly those with RSV = 0 and OP in 0x01..0x09; decode is total. -/
def Obligations.LegalWordsAreNineOpcodes : Prop :=
  ∀ w : Cmd, (∃ i, decode w = .ok i) ↔ rsvField w = 0#8 ∧ 1 ≤ (opField w).toNat ∧ (opField w).toNat ≤ 9

/-- R53: two words that agree on OP, RSV and the fields their command uses are the same command. -/
def Obligations.UnusedFieldsIgnored : Prop :=
  ∀ w w' : Cmd, opField w = opField w' → rsvField w = rsvField w' →
    (opField w ∈ [0x01#8, 0x02#8, 0x04#8, 0x07#8, 0x09#8] → f16Field w = f16Field w') →
    (opField w ∈ [0x01#8, 0x04#8, 0x05#8, 0x06#8] → f32Field w = f32Field w') →
    decode w = decode w'

/-- Sanity: words of 95_test_vectors.md section 9 decode to the commands it writes beside them, and E1 to E4 are
illegal (R48, R49, R51). -/
def Obligations.SpecWordsDecode : Prop :=
  decode 0x01000002FFFFFFFE#64 = .ok (.moveOne 2#16 (BitVec.ofInt 32 (-2))) ∧
  decode 0x0200000300000000#64 = .ok (.moveMany 3#16) ∧
  decode 0x0300000000000000#64 = .ok .home ∧
  decode 0x04000001FFFFFFFF#64 = .ok (.writeDelta 1#16 (BitVec.ofInt 32 (-1))) ∧
  decode 0x050000000000003C#64 = .ok (.setSpeedRpm 60#32) ∧
  decode 0x0600000000000003#64 = .ok (.setSpeedRad 3#32) ∧
  decode 0x0700000500000000#64 = .ok (.resize 5#16) ∧
  decode 0x08001234DEADBEEF#64 = .ok .getMotorCount ∧
  decode 0x0900000100000000#64 = .ok (.readPos 1#16) ∧
  decode 0x0000000000000000#64 = .error .unknownOpcode ∧
  decode 0x0A00000000000000#64 = .error .unknownOpcode ∧
  decode 0xFF00000000000000#64 = .error .unknownOpcode ∧
  decode 0x0101000000000001#64 = .error .reservedNotZero

/-- R58 (operands and words), derived: each one-command line assembles to exactly one word, with the opcode of its
mnemonic, RSV = 0, its operands in F16 and F32 (a signed delta as its two's-complement pattern) and unused fields
0, exactly when every operand is in the range R58 writes; any other value is refused. And the words of every line,
MOVE_MANY_V included, decode to the commands of the line. -/
def Obligations.AssembledLinesDecode : Prop :=
  (∀ idx delta : Int,
    (0 ≤ idx ∧ idx ≤ 65535 ∧ -2147483648 ≤ delta ∧ delta ≤ 2147483647 →
      (∃ w, assemble (.moveOne idx delta) = some [w] ∧ opField w = 0x01#8 ∧ rsvField w = 0#8 ∧
        ((f16Field w).toNat : Int) = idx ∧ (f32Field w).toInt = delta) ∧
      (∃ w, assemble (.writeDelta idx delta) = some [w] ∧ opField w = 0x04#8 ∧ rsvField w = 0#8 ∧
        ((f16Field w).toNat : Int) = idx ∧ (f32Field w).toInt = delta)) ∧
    (idx < 0 ∨ 65535 < idx ∨ delta < -2147483648 ∨ 2147483647 < delta →
      assemble (.moveOne idx delta) = none ∧ assemble (.writeDelta idx delta) = none)) ∧
  (∀ x : Int,
    (0 ≤ x ∧ x ≤ 65535 →
      (∃ w, assemble (.moveMany x) = some [w] ∧ opField w = 0x02#8 ∧ rsvField w = 0#8 ∧
        ((f16Field w).toNat : Int) = x ∧ f32Field w = 0#32) ∧
      (∃ w, assemble (.resize x) = some [w] ∧ opField w = 0x07#8 ∧ rsvField w = 0#8 ∧
        ((f16Field w).toNat : Int) = x ∧ f32Field w = 0#32) ∧
      (∃ w, assemble (.readPos x) = some [w] ∧ opField w = 0x09#8 ∧ rsvField w = 0#8 ∧
        ((f16Field w).toNat : Int) = x ∧ f32Field w = 0#32)) ∧
    (x < 0 ∨ 65535 < x →
      assemble (.moveMany x) = none ∧ assemble (.resize x) = none ∧ assemble (.readPos x) = none)) ∧
  (∀ x : Int,
    (0 ≤ x ∧ x ≤ 4294967295 →
      (∃ w, assemble (.setSpeedRpm x) = some [w] ∧ opField w = 0x05#8 ∧ rsvField w = 0#8 ∧
        f16Field w = 0#16 ∧ ((f32Field w).toNat : Int) = x) ∧
      (∃ w, assemble (.setSpeedRad x) = some [w] ∧ opField w = 0x06#8 ∧ rsvField w = 0#8 ∧
        f16Field w = 0#16 ∧ ((f32Field w).toNat : Int) = x)) ∧
    (x < 0 ∨ 4294967295 < x → assemble (.setSpeedRpm x) = none ∧ assemble (.setSpeedRad x) = none)) ∧
  (∃ w, assemble .home = some [w] ∧ opField w = 0x03#8 ∧ rsvField w = 0#8 ∧
    f16Field w = 0#16 ∧ f32Field w = 0#32) ∧
  (∃ w, assemble .getMotorCount = some [w] ∧ opField w = 0x08#8 ∧ rsvField w = 0#8 ∧
    f16Field w = 0#16 ∧ f32Field w = 0#32) ∧
  ∀ l : AsmLine,
    (l.wellFormed = true → ∃ ws, assemble l = some ws ∧ ws.map decode = l.instrs.map .ok) ∧
    (l.wellFormed = false → assemble l = none)

/-- R59 (the expansion), derived: MOVE_MANY_V d0, …, d(L−1) assembles to L + 1 words in this order: for each k < L the
word of WRITE_DELTA k, dk, then the word of MOVE_MANY L; with no operands MOVE_MANY 0 alone. It is refused when a
delta is out of −2^31..2^31−1, or when L does not fit the F16 operand of MOVE_MANY (R58). -/
def Obligations.MoveManyVExpandsInOrder : Prop :=
  ∀ ds : List Int,
    ((∀ d ∈ ds, -2147483648 ≤ d ∧ d ≤ 2147483647) → ds.length ≤ 65535 →
      ∃ (ws : List Cmd) (w : Cmd), assemble (.moveManyV ds) = some (ws ++ [w]) ∧ ws.length = ds.length ∧
        (∀ (k : Nat) (v : Cmd), ws[k]? = some v →
          opField v = 0x04#8 ∧ rsvField v = 0#8 ∧ (f16Field v).toNat = k ∧
          ds[k]? = some (f32Field v).toInt) ∧
        opField w = 0x02#8 ∧ rsvField w = 0#8 ∧ (f16Field w).toNat = ds.length ∧ f32Field w = 0#32) ∧
    ((∃ d ∈ ds, d < -2147483648 ∨ 2147483647 < d) ∨ 65535 < ds.length → assemble (.moveManyV ds) = none)

/-- Sanity: the sixteen lines of 95_test_vectors.md section 9 and the pseudo-instruction line of program P1
(section 11), as source text, assemble to the words written beside them; so do a `0x` operand and a line with a
comment; lines with an operand one beyond its range are refused (R58, R59). -/
def Obligations.SpecLinesAssemble : Prop :=
  assembleText "MOVE_ONE 2, -2" = some [0x01000002FFFFFFFE#64] ∧
  assembleText "MOVE_ONE 0, 3" = some [0x0100000000000003#64] ∧
  assembleText "MOVE_ONE 1, -2" = some [0x01000001FFFFFFFE#64] ∧
  assembleText "MOVE_MANY 3" = some [0x0200000300000000#64] ∧
  assembleText "HOME" = some [0x0300000000000000#64] ∧
  assembleText "WRITE_DELTA 0, 2" = some [0x0400000000000002#64] ∧
  assembleText "WRITE_DELTA 1, -1" = some [0x04000001FFFFFFFF#64] ∧
  assembleText "WRITE_DELTA 2, 0" = some [0x0400000200000000#64] ∧
  assembleText "SET_SPEED_RPM 60" = some [0x050000000000003C#64] ∧
  assembleText "SET_SPEED_RPM 600" = some [0x0500000000000258#64] ∧
  assembleText "SET_SPEED_RPM 0" = some [0x0500000000000000#64] ∧
  assembleText "SET_SPEED_RAD 3" = some [0x0600000000000003#64] ∧
  assembleText "RESIZE 5" = some [0x0700000500000000#64] ∧
  assembleText "RESIZE 9" = some [0x0700000900000000#64] ∧
  assembleText "GET_MOTOR_COUNT" = some [0x0800000000000000#64] ∧
  assembleText "READ_POS 1" = some [0x0900000100000000#64] ∧
  assembleText "MOVE_MANY_V 2, -1, 0" =
    some [0x0400000000000002#64, 0x04000001FFFFFFFF#64, 0x0400000200000000#64, 0x0200000300000000#64] ∧
  assembleText "SET_SPEED_RPM 0x10" = some [0x0500000000000010#64] ∧
  assembleText "HOME;READ_POS 1" = some [0x0300000000000000#64] ∧
  assembleText "READ_POS 65536" = none ∧ assembleText "RESIZE -1" = none ∧
  assembleText "WRITE_DELTA 0, 2147483648" = none ∧ assembleText "SET_SPEED_RAD 4294967296" = none

/-- R59, derived: running the WRITE_DELTAs of MOVE_MANY_V leaves DBUF[0..L−1] holding the deltas, everything
else as it was but the response. Each command takes its acceptance cycle and DONE. -/
def Obligations.DeltaBufferHoldsExpandedDeltas : Prop :=
  ∀ (s : State) (ds : List Counter) (now : Time) (rest : List Input),
    s.Inv → s.st = .idle → ds.length ≤ s.n.toNat → ds ≠ [] →
    s.inputs = (ds.zipIdx.flatMap fun (d, k) =>
      [⟨false, now, true, encode (.writeDelta (BitVec.ofNat 16 k) d)⟩, ⟨false, now, false, 0#64⟩]) ++ rest →
    stepsTo (2 * ds.length) s = .next { s with
      dbuf := ds ++ s.dbuf.drop ds.length, respStatus := 0#4, respData := 0#32, inputs := rest }

/-! ### The command port and the response -/

/-- A step runs the decoded command: in IDLE with a word offered and no reset, step is exec of the decoded
command, on the state whose sample is taken (R50, derived). `withFetchWord` is such a state; that it stands for
the host offering the word is the model's choice (log entry 9). -/
def Obligations.StepRunsDecodedCommand : Prop :=
  (∀ (s : State) (w : Cmd) (i : Instr), s.cfg.WellFormed → s.st = .idle → s.Offers w → decode w = .ok i →
    step s = exec i s.dropInput) ∧
  (∀ (s : State) (w : Nat) (i : Instr), s.cfg.WellFormed → decode (BitVec.ofNat 64 w) = .ok i →
    step (s.withFetchWord 64 w) = exec i { s with st := .idle })

/-- R50: what a cycle without reset does with the command port. -/
def Obligations.CommandAcceptance : Prop :=
  ∀ (s : State) (x : Input) (rest : List Input),
    s.cfg.WellFormed → s.inputs = x :: rest → x.rst = false →
    (s.st = .idle → x.cmdValid = true → ∀ i, decode x.cmdWord = .ok i →
      step s = exec i { s with inputs := rest }) ∧
    (s.st = .idle → x.cmdValid = false → step s = .next { s with inputs := rest }) ∧
    (s.st ≠ .idle → ∀ (v : Bool) (w : Cmd),
      step { s with inputs := { x with cmdValid := v, cmdWord := w } :: rest } = step s)

/-- R51: an illegal word raises ERR_ILLEGAL and changes nothing else. -/
def Obligations.IllegalWordRaises : Prop :=
  ∀ (s : State) (w : Cmd), s.cfg.WellFormed → s.st = .idle → s.Offers w →
    (rsvField w ≠ 0#8 ∨ (opField w).toNat = 0 ∨ 9 < (opField w).toNat) →
    step s = .next { s.dropInput with respStatus := 1#4, respData := 0#32, st := .done }

/-- R56, derived: in DONE the response is valid and holds, whatever the command port offers, and the next state is
IDLE. -/
def Obligations.DoneLastsOneCycle : Prop :=
  ∀ s : State, s.cfg.WellFormed → s.st = .done → s.nextInput.rst = false →
    s.outputs.respValid = true ∧ s.outputs.respStatus = s.respStatus ∧ s.outputs.respData = s.respData ∧
    step s = .next { s.dropInput with st := .idle }

/-- R32: the control outputs. -/
def Obligations.ControlOutputs : Prop :=
  ∀ s : State, (s.outputs.cmdReady = true ↔ s.st = .idle) ∧ (s.outputs.busy = true ↔ s.st ≠ .idle) ∧
    (s.outputs.respValid = true ↔ s.st = .done) ∧ s.outputs.respStatus = s.respStatus ∧
    s.outputs.respData = s.respData ∧ s.outputs.dataO = s.dataQ ∧ s.outputs.clkO = s.clkQ ∧
    s.outputs.latchO = s.latchQ

/-- R20, derived: only the completion of a command (or reset) changes the response registers. -/
def Obligations.ResponseHeldUntilCompletion : Prop :=
  ∀ s t : State, step s = .next t → s.nextInput.rst = false → t.st ≠ .done →
    t.respStatus = s.respStatus ∧ t.respData = s.respData

/-- R125 to R128: each error status is entered exactly in the acceptance cycle of the words that R125 to R128
name, and the failing command changes only the response and ST. -/
def Obligations.ErrorsHaveExactlyTheirCauses : Prop :=
  ∀ s t : State, step s = .next t → s.nextInput.rst = false → t.st = .done →
    (t.respStatus = 1#4 ↔ s.st = .idle ∧ ∃ e, decode s.nextInput.cmdWord = .error e) ∧
    (t.respStatus = 2#4 ↔ s.st = .idle ∧
      (decode s.nextInput.cmdWord = .ok (.setSpeedRpm 0#32) ∨ decode s.nextInput.cmdWord = .ok (.setSpeedRad 0#32))) ∧
    (t.respStatus = 3#4 ↔ s.st = .idle ∧
      ∃ c, decode s.nextInput.cmdWord = .ok (.resize c) ∧ (c = 0#16 ∨ s.cfg.nmax < c.toNat)) ∧
    (t.respStatus = 4#4 ↔ s.st = .idle ∧
      ((∃ k d, decode s.nextInput.cmdWord = .ok (.writeDelta k d) ∧ s.n.toNat ≤ k.toNat) ∨
       (∃ k, decode s.nextInput.cmdWord = .ok (.readPos k) ∧ s.n.toNat ≤ k.toNat) ∨
       (∃ l, decode s.nextInput.cmdWord = .ok (.moveMany l) ∧ s.n.toNat < l.toNat))) ∧
    (t.respStatus ≠ 0#4 →
      t = { s.dropInput with respStatus := t.respStatus, respData := 0#32, st := .done })

/-- R35, derived: a command that completes at once with a status other than OK changes only RESP_STATUS, RESP_DATA
and ST, and its data is 0. -/
def Obligations.FailedCommandChangesOnlyResponse : Prop :=
  ∀ (i : Instr) (s t : State), exec i s = .next t → t.st = .done → t.respStatus ≠ 0#4 →
    t = { s with respStatus := t.respStatus, respData := 0#32, st := .done }

/-! ### Reset and the whole machine -/

/-- R141: a cycle with rst = 1 makes exactly the state updates R141 lists, from any state, and makes no entry in the
pin trace. How the model cuts its traces at a reset is left open here (log entry 8). -/
def Obligations.ResetCycleEffect : Prop :=
  ∀ (s : State) (x : Input) (rest : List Input), s.cfg.WellFormed → s.inputs = x :: rest → x.rst = true →
    ∃ (pins pins' : List PinEvent) (opens opens' : List Time),
      pins' ++ pins = s.pastPins ++ s.pinTrace ∧ opens' ++ opens = s.pastOpens ++ s.gateOpens ∧
      step s = .next
        { cfg := s.cfg, n := BitVec.ofNat 16 s.cfg.nInit
          pos := List.replicate s.cfg.nmax 0#32, dbuf := List.replicate s.cfg.nmax 0#32
          rem := List.replicate s.cfg.nmax 0#32
          stepDelay := BitVec.ofNat 32 (60000000 / s.cfg.spr / 60), last := x.now
          respStatus := 0#4, respData := 0#32, dataQ := false, clkQ := false, latchQ := false
          moIdx := 0#16, moRem := 0#32, mode := .many, m := 0#16, i := 0#16, zc := 0#16, maxch := 0#16
          a := 0#16, ret := .mmCheck, fi := 0#16, bi := 0#3, sr := 0#8, st := .idle
          inputs := rest, freeTick := s.freeTick, pinTrace := pins, gateOpens := opens
          pastPins := pins', pastOpens := opens' }

/-- R142, derived: reset held for several cycles leaves what its last cycle leaves; LAST is that cycle's time. -/
def Obligations.ResetHeldIsItsLastCycle : Prop :=
  ∀ (s : State) (xs : List Input) (x : Input) (rest : List Input), s.cfg.WellFormed →
    s.inputs = xs ++ x :: rest → (∀ y ∈ xs, y.rst = true) → x.rst = true →
    stepsTo (xs.length + 1) s = .next { State.resetOf s.cfg x.now with
      inputs := rest, freeTick := s.freeTick
      pastPins := s.pastPins ++ s.pinTrace, pastOpens := s.pastOpens ++ s.gateOpens }

/-- The state after reset meets the invariant, for every well-formed configuration and reset time (R141, derived).
The configuration and the time of `State.reset` are the model's choices (log entries 3 and 4). -/
def Obligations.ResetStateMeetsInvariant : Prop :=
  (∀ (c : Config) (now : Time), c.WellFormed → (State.resetOf c now).Inv) ∧ State.reset.Inv

/-- Derived: every step keeps the invariant: configuration legal, arrays of NMAX entries, N in 1..NMAX, status code
0 to 4, and every index the sequencer uses in range (R2, R14, R15, R37, R124). -/
def Obligations.StepKeepsInvariant : Prop :=
  ∀ s t : State, s.Inv → step s = .next t → t.Inv

/-- R37, R132, derived: no state that meets the invariant faults or is refused: every cycle has a next state,
so an out-of-range index never reaches an array. -/
def Obligations.InvariantStatesAlwaysStep : Prop :=
  ∀ s : State, s.Inv → ∃ t, step s = .next t

/-- R2: an ill-formed configuration is refused, whatever the state and the inputs. -/
def Obligations.IllFormedConfigurationRefused : Prop :=
  ∀ s : State, ¬ s.cfg.WellFormed → step s = .refused .illFormedConfig

/-- R34: no step writes the configuration record. -/
def Obligations.ConfigurationNeverWritten : Prop :=
  ∀ s t : State, step s = .next t → t.cfg = s.cfg

/-- R14, R17, R18, R19, derived: N, STEP_DELAY, DBUF and LAST change only through the commands and states that
those rules name as their writers (and reset). -/
def Obligations.ControlRegistersHaveTheirWriters : Prop :=
  ∀ s t : State, step s = .next t → s.nextInput.rst = false →
    (t.n ≠ s.n → s.st = .idle ∧ ∃ c, decode s.nextInput.cmdWord = .ok (.resize c) ∧ t.n = c) ∧
    (t.stepDelay ≠ s.stepDelay → s.st = .idle ∧
      ((∃ r, decode s.nextInput.cmdWord = .ok (.setSpeedRpm r)) ∨
       (∃ r, decode s.nextInput.cmdWord = .ok (.setSpeedRad r)))) ∧
    (t.dbuf ≠ s.dbuf → s.st = .idle ∧
      ((∃ k d, decode s.nextInput.cmdWord = .ok (.writeDelta k d)) ∨
       (∃ c, decode s.nextInput.cmdWord = .ok (.resize c)))) ∧
    (t.last ≠ s.last → s.st = .gate ∧ t.last = s.nextInput.now ∧ t.gateOpens = s.gateOpens ++ [t.last])

/-- R31, R144, derived: every step keeps each pin's level equal to the level of its last event since the last
reset, or 0 before the first; and a reset drops the pins to 0 without adding an event (log entry 8). -/
def Obligations.PinLevelsFollowTheTrace : Prop :=
  ∀ s t : State, step s = .next t →
    ((∀ p, s.pinLevel p = levelAfter p s.pinTrace) → ∀ p, t.pinLevel p = levelAfter p t.pinTrace) ∧
    (s.nextInput.rst = true → (∀ p, t.pinLevel p = false) ∧
      t.pastPins ++ t.pinTrace = s.pastPins ++ s.pinTrace)

/-! ### The commands -/

/-- R98, R101: MOVE_ONE's encoding and acceptance action. Out of range: status OK, nothing else. -/
def Obligations.MoveOneAcceptance : Prop :=
  ∀ (s : State) (idx : Idx) (delta : Counter),
    (∀ w, opField w = 0x01#8 → rsvField w = 0#8 → f16Field w = idx → f32Field w = delta →
      decode w = .ok (.moveOne idx delta)) ∧
    (idx.toNat < s.n.toNat → exec (.moveOne idx delta) s =
      .next { s with moIdx := idx, moRem := delta, st := .moStep }) ∧
    (s.n.toNat ≤ idx.toNat → exec (.moveOne idx delta) s =
      .next { s with respStatus := 0#4, respData := 0#32, st := .done })

/-- R102: WRITE_DELTA's encoding and acceptance action. -/
def Obligations.WriteDeltaAcceptance : Prop :=
  ∀ (s : State) (idx : Idx) (delta : Counter), s.ShapeOk →
    (∀ w, opField w = 0x04#8 → rsvField w = 0#8 → f16Field w = idx → f32Field w = delta →
      decode w = .ok (.writeDelta idx delta)) ∧
    (idx.toNat < s.n.toNat → exec (.writeDelta idx delta) s =
      .next { s with
        dbuf := s.dbuf.set idx.toNat delta, respStatus := 0#4, respData := 0#32, st := .done }) ∧
    (s.n.toNat ≤ idx.toNat → exec (.writeDelta idx delta) s =
      .next { s with respStatus := 4#4, respData := 0#32, st := .done })

/-- R103: MOVE_MANY's encoding and acceptance action. REM[i] takes DBUF[i] for i < L and keeps its value above. -/
def Obligations.MoveManyAcceptance : Prop :=
  ∀ (s : State) (len : Idx), s.ShapeOk →
    (∀ w, opField w = 0x02#8 → rsvField w = 0#8 → f16Field w = len → decode w = .ok (.moveMany len)) ∧
    (len.toNat ≤ s.n.toNat → ∃ rem, exec (.moveMany len) s =
        .next { s with
          rem := rem, mode := .many, m := len, i := 0#16, zc := 0#16, maxch := 0#16, st := .mmPass } ∧
      rem.length = s.rem.length ∧
      ∀ k : Nat, rem[k]? = if k < len.toNat then s.dbuf[k]? else s.rem[k]?) ∧
    (s.n.toNat < len.toNat → exec (.moveMany len) s =
      .next { s with respStatus := 4#4, respData := 0#32, st := .done })

/-- R104: HOME's encoding and acceptance action. -/
def Obligations.HomeAcceptance : Prop :=
  ∀ s : State,
    (∀ w, opField w = 0x03#8 → rsvField w = 0#8 → decode w = .ok .home) ∧
    exec .home s = .next { s with
      mode := .home, m := s.n, i := 0#16, zc := 0#16, maxch := 0#16, st := .mmPass }

/-- R90, R88: SET_SPEED_RPM's encoding and acceptance action, with the step delay of the rpm formula. -/
def Obligations.SetSpeedRpmAcceptance : Prop :=
  ∀ (s : State) (rpm : Word),
    (∀ w, opField w = 0x05#8 → rsvField w = 0#8 → f32Field w = rpm → decode w = .ok (.setSpeedRpm rpm)) ∧
    (rpm ≠ 0#32 → exec (.setSpeedRpm rpm) s = .next { s with
      stepDelay := BitVec.ofNat 32 (60000000 / s.cfg.spr / rpm.toNat)
      respStatus := 0#4, respData := 0#32, st := .done }) ∧
    (rpm = 0#32 → exec (.setSpeedRpm rpm) s =
      .next { s with respStatus := 2#4, respData := 0#32, st := .done })

/-- R91, R89, derived: SET_SPEED_RAD's encoding and acceptance action. The constant 6_283_185 is the spec's own
("from general knowledge, not in source", R89, D16; log entry 14). -/
def Obligations.SetSpeedRadAcceptance : Prop :=
  ∀ (s : State) (rad : Word),
    (∀ w, opField w = 0x06#8 → rsvField w = 0#8 → f32Field w = rad → decode w = .ok (.setSpeedRad rad)) ∧
    (rad ≠ 0#32 → exec (.setSpeedRad rad) s = .next { s with
      stepDelay := BitVec.ofNat 32 (6283185 / s.cfg.spr / rad.toNat)
      respStatus := 0#4, respData := 0#32, st := .done }) ∧
    (rad = 0#32 → exec (.setSpeedRad rad) s =
      .next { s with respStatus := 2#4, respData := 0#32, st := .done })

/-- R118: RESIZE's encoding and acceptance action. -/
def Obligations.ResizeAcceptance : Prop :=
  ∀ (s : State) (count : Idx),
    (∀ w, opField w = 0x07#8 → rsvField w = 0#8 → f16Field w = count → decode w = .ok (.resize count)) ∧
    (1 ≤ count.toNat → count.toNat ≤ s.cfg.nmax → exec (.resize count) s = .next { s with
      n := count, pos := List.replicate s.cfg.nmax 0#32, dbuf := List.replicate s.cfg.nmax 0#32
      respStatus := 0#4, respData := 1#32, st := .done }) ∧
    (count.toNat = 0 ∨ s.cfg.nmax < count.toNat → exec (.resize count) s =
      .next { s with respStatus := 3#4, respData := 0#32, st := .done })

/-- R121: GET_MOTOR_COUNT's encoding and acceptance action: the data is N, zero-extended. -/
def Obligations.GetMotorCountAcceptance : Prop :=
  ∀ s : State,
    (∀ w, opField w = 0x08#8 → rsvField w = 0#8 → decode w = .ok .getMotorCount) ∧
    ∃ d : Word, d.toNat = s.n.toNat ∧ exec .getMotorCount s =
      .next { s with respStatus := 0#4, respData := d, st := .done }

/-- R122: READ_POS's encoding and acceptance action: the counter's 32-bit pattern. -/
def Obligations.ReadPosAcceptance : Prop :=
  ∀ (s : State) (idx : Idx), s.ShapeOk →
    (∀ w, opField w = 0x09#8 → rsvField w = 0#8 → f16Field w = idx → decode w = .ok (.readPos idx)) ∧
    (idx.toNat < s.n.toNat → ∃ p, s.pos[idx.toNat]? = some p ∧ exec (.readPos idx) s =
      .next { s with respStatus := 0#4, respData := p, st := .done }) ∧
    (s.n.toNat ≤ idx.toNat → exec (.readPos idx) s =
      .next { s with respStatus := 4#4, respData := 0#32, st := .done })

/-- R119, derived: RESIZE n followed by GET_MOTOR_COUNT answers n on success and the old count on failure. Three
cycles: RESIZE accepted, DONE, GET_MOTOR_COUNT accepted. -/
def Obligations.CountAfterResize : Prop :=
  ∀ (s : State) (count : Idx) (x y z : Input) (rest : List Input), s.Inv → s.st = .idle →
    s.inputs = x :: y :: z :: rest → x.rst = false → y.rst = false → z.rst = false →
    x.cmdValid = true → x.cmdWord = encode (.resize count) →
    z.cmdValid = true → z.cmdWord = encode .getMotorCount →
    ∃ t, stepsTo 3 s = .next t ∧ t.st = .done ∧ t.respStatus = 0#4 ∧
      t.respData.toNat =
        (if 1 ≤ count.toNat ∧ count.toNat ≤ s.cfg.nmax then count.toNat else s.n.toNat)

/-! ### The state rules -/

/-- R99: state MO_STEP; MO_REM never overflows. -/
def Obligations.MoStepRule : Prop :=
  ∀ (s : State) (p : Counter), s.cfg.WellFormed → s.st = .moStep → s.nextInput.rst = false →
    s.pos[s.moIdx.toNat]? = some p →
    (s.moRem.toInt = 0 → step s = .next { s.dropInput with
      respStatus := 0#4, respData := 0#32, st := .done }) ∧
    (0 < s.moRem.toInt → (s.moRem - 1#32).toInt = s.moRem.toInt - 1 ∧ step s = .next { s.dropInput with
      moRem := s.moRem - 1#32, pos := s.pos.set s.moIdx.toNat (p + 1#32)
      a := s.moIdx + 1#16, ret := .moStep, st := .gate }) ∧
    (s.moRem.toInt < 0 → (s.moRem + 1#32).toInt = s.moRem.toInt + 1 ∧ step s = .next { s.dropInput with
      moRem := s.moRem + 1#32, pos := s.pos.set s.moIdx.toNat (p - 1#32)
      a := s.moIdx + 1#16, ret := .moStep, st := .gate })

/-- R105, R106, R107: state MM_PASS: one motor of a MOVE_MANY pass, one motor of a HOME pass (which steps toward
zero without wrapping), and the frame request after the full pass. -/
def Obligations.PassRule : Prop :=
  ∀ s : State, s.cfg.WellFormed → s.st = .mmPass → s.nextInput.rst = false →
    (s.i.toNat < s.m.toNat → s.mode = .many →
      ∀ r p : Counter, s.rem[s.i.toNat]? = some r → s.pos[s.i.toNat]? = some p →
        (0 < r.toInt → step s = .next { s.dropInput with
          rem := s.rem.set s.i.toNat (r - 1#32), pos := s.pos.set s.i.toNat (p + 1#32)
          maxch := s.i, i := s.i + 1#16 }) ∧
        (r.toInt < 0 → step s = .next { s.dropInput with
          rem := s.rem.set s.i.toNat (r + 1#32), pos := s.pos.set s.i.toNat (p - 1#32)
          maxch := s.i, i := s.i + 1#16 }) ∧
        (r.toInt = 0 → step s = .next { s.dropInput with zc := s.zc + 1#16, i := s.i + 1#16 })) ∧
    (s.i.toNat < s.m.toNat → s.mode = .home → ∀ p : Counter, s.pos[s.i.toNat]? = some p →
        (0 < p.toInt → (p - 1#32).toInt = p.toInt - 1 ∧ step s = .next { s.dropInput with
          pos := s.pos.set s.i.toNat (p - 1#32), maxch := s.i, i := s.i + 1#16 }) ∧
        (p.toInt < 0 → (p + 1#32).toInt = p.toInt + 1 ∧ step s = .next { s.dropInput with
          pos := s.pos.set s.i.toNat (p + 1#32), maxch := s.i, i := s.i + 1#16 }) ∧
        (p.toInt = 0 → step s = .next { s.dropInput with zc := s.zc + 1#16, i := s.i + 1#16 })) ∧
    (s.m.toNat ≤ s.i.toNat → step s = .next { s.dropInput with
      a := s.maxch + 1#16, ret := .mmCheck, st := .gate })

/-- R108: state MM_CHECK: the exit test after the frame of a pass. -/
def Obligations.ExitTestAfterFrame : Prop :=
  ∀ s : State, s.cfg.WellFormed → s.st = .mmCheck → s.nextInput.rst = false →
    (s.zc = s.m → step s = .next { s.dropInput with
      respStatus := 0#4, respData := 0#32, st := .done }) ∧
    (s.zc ≠ s.m → step s = .next { s.dropInput with
      i := 0#16, zc := 0#16, maxch := 0#16, st := .mmPass })

/-- R85: state GATE: opens, or waits with no state change. -/
def Obligations.GateRule : Prop :=
  ∀ s : State, s.cfg.WellFormed → s.st = .gate → s.nextInput.rst = false →
    (s.stepDelay.toNat ≤ (s.nextInput.now - s.last).toNat → step s = .next { s.dropInput with
      last := s.nextInput.now, st := .latchLo, gateOpens := s.gateOpens ++ [s.nextInput.now] }) ∧
    ((s.nextInput.now - s.last).toNat < s.stepDelay.toNat → step s = .next s.dropInput)

/-- R69, R70, R71: the states of the bit serializer. -/
def Obligations.SerializerRules : Prop :=
  ∀ s : State, s.cfg.WellFormed → s.nextInput.rst = false →
    (s.st = .clkLo → step s = .next { s.dropInput with
      clkQ := false, pinTrace := s.pinTrace ++ [⟨.clk, false⟩], st := .dataSet }) ∧
    (s.st = .dataSet → step s = .next { s.dropInput with
      dataQ := s.sr.getLsbD s.bi.toNat
      pinTrace := s.pinTrace ++ [⟨.data, s.sr.getLsbD s.bi.toNat⟩], st := .clkHi }) ∧
    (s.st = .clkHi → s.bi.toNat < s.cfg.b - 1 → step s = .next { s.dropInput with
      clkQ := true, pinTrace := s.pinTrace ++ [⟨.clk, true⟩], bi := s.bi + 1#3, st := .clkLo }) ∧
    (s.st = .clkHi → s.cfg.b - 1 ≤ s.bi.toNat → 0 < s.fi.toNat → step s = .next { s.dropInput with
      clkQ := true, pinTrace := s.pinTrace ++ [⟨.clk, true⟩], fi := s.fi - 1#16, st := .load }) ∧
    (s.st = .clkHi → s.cfg.b - 1 ≤ s.bi.toNat → s.fi.toNat = 0 → step s = .next { s.dropInput with
      clkQ := true, pinTrace := s.pinTrace ++ [⟨.clk, true⟩], st := .latchHi })

/-- R77, R78, R79, R80: the states of the frame transmitter, with the active-count rule written out. -/
def Obligations.FrameStateRules : Prop :=
  ∀ s : State, s.cfg.WellFormed → s.nextInput.rst = false →
    (s.st = .latchLo →
      step s = .next { s.dropInput with
        latchQ := false, pinTrace := s.pinTrace ++ [⟨.latch, false⟩], st := .load
        fi := (if s.cfg.alwaysFullFrame = true ∨ s.a.toNat = 0 ∨ s.n.toNat < s.a.toNat then s.n else s.a)
          - 1#16 }) ∧
    (s.st = .load → ∀ (p : Counter) (v : Pattern), s.pos[s.fi.toNat]? = some p →
      s.cfg.phaseTable[(p.toInt % (s.cfg.cycle : Int)).toNat]? = some v →
      step s = .next { s.dropInput with sr := v, bi := 0#3, st := .clkLo }) ∧
    (s.st = .latchHi → step s = .next { s.dropInput with
      latchQ := true, pinTrace := s.pinTrace ++ [⟨.latch, true⟩], st := .latchEnd }) ∧
    (s.st = .latchEnd → step s = .next { s.dropInput with
      latchQ := false, pinTrace := s.pinTrace ++ [⟨.latch, false⟩]
      st := match s.ret with | .moStep => .moStep | .mmCheck => .mmCheck })

/-! ### Phase table and speed -/

/-- R62, R16: for every counter the phase index is the Euclidean remainder, below CYCLE, and selects an entry. -/
def Obligations.PhaseIndexAlwaysValid : Prop :=
  ∀ (c : Config) (p : Counter), c.WellFormed →
    ∃ (k : Nat) (h : k < c.phaseTable.length), k < c.cycle ∧ (c.cycle : Int) ∣ p.toInt - (k : Int) ∧
      phase c p = some c.phaseTable[k]

/-- R63, derived: phase lookup is periodic with period CYCLE. -/
def Obligations.PhaseIsPeriodic : Prop :=
  ∀ (c : Config) (p q : Counter), c.WellFormed →
    (c.cycle : Int) ∣ q.toInt - p.toInt → phase c q = phase c p

/-- R64, derived: at the counter wrap the phase index moves by +1 modulo CYCLE exactly when CYCLE divides 2^32,
that is when CYCLE is a power of two; and so for the −1 step the other way. -/
def Obligations.WrapKeepsPhaseExactlyForPowersOfTwo : Prop :=
  ∀ c : Config, c.WellFormed →
    (emod (s32 (wrap32 ((2 ^ 31 - 1) + 1))) c.cycle = (emod (2 ^ 31 - 1) c.cycle + 1) % c.cycle ↔
      ∃ k : Nat, c.cycle = 2 ^ k) ∧
    (emod (2 ^ 31 - 1) c.cycle = emod (-2 ^ 31 - 1) c.cycle ↔ c.cycle ∣ 2 ^ 32) ∧
    (c.cycle ∣ 2 ^ 32 ↔ ∃ k : Nat, c.cycle = 2 ^ k)

/-- R92, R93, derived: the delays are single truncated quotients, the rad/s one of 2π·10^6 itself, and no bit of
them is lost in 32 bits. -/
def Obligations.DelaysAreSingleTruncations : Prop :=
  ∀ (c : Config) (r : Word), c.WellFormed → r ≠ 0#32 →
    (delayRpm c r).toNat = 60000000 / (c.spr * r.toNat) ∧
    (delayRad c r).toNat = 6283185 / (c.spr * r.toNat) ∧
    (delayRad c r).toNat = ⌊2 * Real.pi * 10 ^ 6 / ((c.spr : ℝ) * (r.toNat : ℝ))⌋₊ ∧
    (delayRpm c r).toNat ≤ 60000000 ∧ (delayRad c r).toNat ≤ 6283185

/-! ### Frames and the timing gate -/

/-- R76, R82, R67, R157, derived: once its gate is open, a frame puts exactly the events of R76 on the pins and
returns to RET, with only the pins and FI, BI, SR changed; the clock is left high and the data line holds the
last bit of motor 0. -/
def Obligations.FramePutsExactlyItsEvents : Prop :=
  ∀ s : State, s.Inv → s.st = .latchLo → s.Quiet (frameCycles s) →
    stepsTo (frameCycles s) s = .next { s with
      st := retState s.ret, fi := 0#16, bi := BitVec.ofNat 3 (s.cfg.b - 1), sr := patternOf s.cfg s.pos 0
      dataQ := (patternOf s.cfg s.pos 0).getLsbD (s.cfg.b - 1), clkQ := true, latchQ := false
      pinTrace := s.pinTrace ++ framePins s.cfg s.n s.pos s.a
      inputs := s.inputs.drop (frameCycles s) }

/-- R76, derived: a frame has 3 + 3·A_eff·B events, of which exactly one raises the latch, the last but one. -/
def Obligations.FrameHasOneLatchPulse : Prop :=
  ∀ (c : Config) (n a : Idx) (pos : List Counter), c.WellFormed →
    (framePins c n pos a).length = 3 + 3 * (activeCount c a n).toNat * c.b ∧
    (framePins c n pos a).count ⟨.latch, true⟩ = 1 ∧
    (framePins c n pos a).drop (1 + 3 * (activeCount c a n).toNat * c.b) =
      [⟨.latch, true⟩, ⟨.latch, false⟩]

/-- R65, derived: bits B..7 of the phase table never show: two tables that agree on the low B bits of every entry
give the same outputs, pin trace, counters and gate-open times in every run from IDLE. -/
def Obligations.HighPatternBitsNeverShow : Prop :=
  ∀ (s u : State) (table : List Pattern) (k : Nat), s.Inv → s.st = .idle →
    table.length = s.cfg.phaseTable.length →
    (∀ (j b : Nat), b < s.cfg.b →
      (table.getD j 0#8).getLsbD b = (s.cfg.phaseTable.getD j 0#8).getLsbD b) →
    stepsTo k s = .next u →
    ∃ v, stepsTo k { s with cfg := { s.cfg with phaseTable := table } } = .next v ∧
      v.outputs = u.outputs ∧ v.pinTrace = u.pinTrace ∧ v.pastPins = u.pastPins ∧ v.pos = u.pos ∧
      v.gateOpens = u.gateOpens ∧ v.st = u.st

/-- R150, derived: while time stands still with elapsed below STEP_DELAY, the engine stays in GATE and nothing
changes, however long it is. -/
def Obligations.FrozenTimeHangsTheGate : Prop :=
  ∀ (s : State) (k : Nat), s.cfg.WellFormed → s.st = .gate → s.Quiet k →
    (∀ x ∈ s.inputs.take k, (x.now - s.last).toNat < s.stepDelay.toNat) →
    stepsTo k s = .next { s with inputs := s.inputs.drop k }

/-- R86, R151, derived: two consecutive gate openings are at least STEP_DELAY apart in true time, also across one
wrap of the 64-bit time input: `T` and `T'` are the true times whose low 64 bits are LAST and now. -/
def Obligations.GateOpeningsAreSpaced : Prop :=
  ∀ (s t : State) (T T' : Nat), step s = .next t → s.nextInput.rst = false →
    t.gateOpens ≠ s.gateOpens →
    s.last = BitVec.ofNat 64 T → s.nextInput.now = BitVec.ofNat 64 T' → T ≤ T' → T' - T < 2 ^ 64 →
    T + s.stepDelay.toNat ≤ T' ∧ t.last = s.nextInput.now ∧ t.gateOpens = s.gateOpens ++ [t.last]

/-- R86, R87, derived: along every run without reset in which time does not go backwards, the gate-open times,
begun with the watermark of the run's start, are spaced by at least any delay `D` that STEP_DELAY never goes
below. From the state after reset this is the first frame's wait too. -/
def Obligations.FramesAreSpacedAlongRuns : Prop :=
  ∀ (s t : State) (k D : Nat), s.gateOpens = [] → s.Quiet k →
    (s.last :: (s.inputs.take k).map Input.now).Pairwise (fun a b => a.toNat ≤ b.toNat) →
    (∀ j ≤ k, ∀ u, stepsTo j s = .next u → D ≤ u.stepDelay.toNat) →
    stepsTo k s = .next t →
    (s.last :: t.gateOpens).IsChain (fun a b => a.toNat + D ≤ b.toNat)

/-! ### Motion -/

/-- R100, derived: MOVE_ONE in range sends exactly |delta| frames, each with active count idx+1, the j-th with the
motor at P + j·sign(delta), and completes with OK, its counter moved by delta and nothing else of the
architectural state changed. -/
def Obligations.MoveOneNetEffect : Prop :=
  ∀ (s t : State) (k : Nat) (idx : Idx) (delta p : Counter), s.Inv → s.st = .idle → s.Quiet k →
    s.Offers (encode (.moveOne idx delta)) → idx.toNat < s.n.toNat → s.pos[idx.toNat]? = some p →
    CompletesAt k s t →
    t.pos = s.pos.set idx.toNat (p + delta) ∧
    t.pinTrace = s.pinTrace ++ (List.range delta.toInt.natAbs).flatMap (fun j =>
      framePins s.cfg s.n (s.pos.set idx.toNat (wrap32 (p.toInt + workedOff delta.toInt (j + 1))))
        (idx + 1#16)) ∧
    (∃ opens : List Time, t.gateOpens = s.gateOpens ++ opens ∧ opens.length = delta.toInt.natAbs) ∧
    t.respStatus = 0#4 ∧ t.respData = 0#32 ∧
    t.n = s.n ∧ t.dbuf = s.dbuf ∧ t.stepDelay = s.stepDelay

/-- R109, derived: MOVE_MANY L sends exactly K+1 frames, with the active counts and counters of R109, and completes
with OK and POS[i] = wrap32(P_i + D_i) for i < L, REM zero there, everything else of the architectural state
unchanged. -/
def Obligations.MoveManyNetEffect : Prop :=
  ∀ (s t : State) (k : Nat) (len : Idx), s.Inv → s.st = .idle → s.Quiet k →
    s.Offers (encode (.moveMany len)) → len.toNat ≤ s.n.toNat → CompletesAt k s t →
    (∀ j : Nat, t.pos[j]? =
      if j < len.toNat then (s.pos[j]?).bind (fun p => (s.dbuf[j]?).map (fun d => p + d)) else s.pos[j]?) ∧
    (∀ j : Nat, j < len.toNat → t.rem[j]? = some 0#32) ∧
    t.pinTrace = s.pinTrace ++ movePins s.cfg s.n s.pos ((s.dbuf.take len.toNat).map s32) ∧
    (∃ opens : List Time, t.gateOpens = s.gateOpens ++ opens ∧
      opens.length = largest ((s.dbuf.take len.toNat).map s32) + 1) ∧
    t.respStatus = 0#4 ∧ t.respData = 0#32 ∧
    t.n = s.n ∧ t.dbuf = s.dbuf ∧ t.stepDelay = s.stepDelay

/-- R110, derived: HOME sends exactly K+1 frames and completes with OK and every counter POS[0..N−1] at 0. -/
def Obligations.HomeNetEffect : Prop :=
  ∀ (s t : State) (k : Nat), s.Inv → s.st = .idle → s.Quiet k → s.Offers (encode .home) →
    CompletesAt k s t →
    (∀ j : Nat, t.pos[j]? = if j < s.n.toNat then some 0#32 else s.pos[j]?) ∧
    t.pinTrace = s.pinTrace ++
      movePins s.cfg s.n s.pos ((s.pos.take s.n.toNat).map fun p => -s32 p) ∧
    (∃ opens : List Time, t.gateOpens = s.gateOpens ++ opens ∧
      opens.length = largest ((s.pos.take s.n.toNat).map s32) + 1) ∧
    t.respStatus = 0#4 ∧ t.respData = 0#32 ∧
    t.n = s.n ∧ t.dbuf = s.dbuf ∧ t.stepDelay = s.stepDelay

/-- R97, derived: one pass of MOVE_MANY or HOME changes each counter by at most one, and only counters below M; then
it requests the frame of active count MAXCH+1. -/
def Obligations.PassMovesEachMotorAtMostOnce : Prop :=
  ∀ s : State, s.Inv → s.st = .mmPass → s.i = 0#16 → s.zc = 0#16 → s.maxch = 0#16 →
    s.Quiet (s.m.toNat + 1) →
    ∃ t, stepsTo (s.m.toNat + 1) s = .next t ∧ t.st = .gate ∧ t.ret = .mmCheck ∧
      t.a = t.maxch + 1#16 ∧ t.pinTrace = s.pinTrace ∧ t.gateOpens = s.gateOpens ∧
      t.pos.length = s.pos.length ∧
      (∀ j p q, s.pos[j]? = some p → t.pos[j]? = some q →
        (q = p ∨ q = p + 1#32 ∨ q = p - 1#32) ∧ (s.m.toNat ≤ j → q = p) ∧
        (q ≠ p → j ≤ t.maxch.toNat)) ∧
      (t.zc = s.m ↔ t.pos = s.pos)

/-- R112, derived: every command in progress reaches DONE after finitely many cycles without reset, provided every
gate wait ends: from every cycle on, whatever the watermark, a later sample meets the gate's condition. -/
def Obligations.EveryCommandTerminates : Prop :=
  ∀ (s : State) (f : Nat → Input), s.Inv → s.st ≠ .idle → (∀ j, (f j).rst = false) →
    (∀ (j : Nat) (p : Time), ∃ j', j ≤ j' ∧ s.stepDelay.toNat ≤ ((f j').now - p).toNat) →
    ∃ (k : Nat) (t : State), stepsTo k (s.feed f k) = .next t ∧ t.st = .done

/-- R29, derived: no behaviour depends on the sequencer registers outside a command: two states that differ only in
those registers, both in IDLE, stay equal but for them in every run (for inputs of every kind). -/
def Obligations.StaleSequencerStateNeverShows : Prop :=
  ∀ (s s' t : State) (k : Nat), s.Inv → s'.Inv → s.st = .idle → s.scrub = s'.scrub →
    stepsTo k s = .next t → ∃ t', stepsTo k s' = .next t' ∧ t.scrub = t'.scrub ∧ t.outputs = t'.outputs

/-- R131: an error's whole course, for every error: no trap entry. The response is written and nothing else changes,
and after DONE the machine is in IDLE again. -/
def Obligations.ErrorEntryAndReturn : Prop :=
  ∀ (s t : State) (x y : Input) (rest : List Input), s.cfg.WellFormed → s.st = .idle →
    s.inputs = x :: y :: rest → x.rst = false → y.rst = false →
    step s = .next t → t.st = .done → t.respStatus ≠ 0#4 →
    stepsTo 2 s = .next { s with
      respStatus := t.respStatus, respData := 0#32, st := .idle, inputs := rest }

/-- R114, derived: a MOVE_MANY or HOME with nothing to move sends exactly one frame, of active count 1, and
changes no counter. -/
def Obligations.AllZeroMoveSendsOneFrame : Prop :=
  ∀ (s t : State) (k : Nat), s.Inv → s.st = .idle → s.Quiet k → CompletesAt k s t →
    ((s.Offers (encode .home) ∧ ∀ p ∈ s.pos.take s.n.toNat, p = 0#32) ∨
      ∃ len : Idx, len.toNat ≤ s.n.toNat ∧ s.Offers (encode (.moveMany len)) ∧
        ∀ d ∈ s.dbuf.take len.toNat, d = 0#32) →
    t.pos = s.pos ∧ t.pinTrace = s.pinTrace ++ framePins s.cfg s.n s.pos 1#16 ∧
      t.gateOpens.length = s.gateOpens.length + 1 ∧ t.respStatus = 0#4
end

