-- ==== Sys2Proof/Laws/Encode.lean ====
section
/-! SUPPORT. The fields of a packed word (R48), and what the decoder reads from them. -/

namespace Sys2Proof

/-- The bits of a packed word, field by field. -/
theorem getLsbD_packCmd (op rsv : BitVec 8) (f16 : Idx) (f32 : BitVec 32) (k : Nat) :
    (packCmd op rsv f16 f32).getLsbD k =
      if k < 32 then f32.getLsbD k
      else if k - 32 < 16 then f16.getLsbD (k - 32)
      else if k - 32 - 16 < 8 then rsv.getLsbD (k - 32 - 16)
      else op.getLsbD (k - 32 - 16 - 8) := by
  show BitVec.getLsbD (w := 8 + 8 + 16 + 32) (op ++ rsv ++ f16 ++ f32) k = _
  simp only [BitVec.getLsbD_append]

theorem opField_packCmd (op rsv : BitVec 8) (f16 : Idx) (f32 : BitVec 32) :
    opField (packCmd op rsv f16 f32) = op := by
  apply BitVec.eq_of_getLsbD_eq
  intro j hj
  simp only [opField, BitVec.getLsbD_extractLsb', getLsbD_packCmd, hj, decide_true, Bool.true_and]
  rw [if_neg (by omega), if_neg (by omega), if_neg (by omega), show 56 + j - 32 - 16 - 8 = j by omega]

theorem rsvField_packCmd (op rsv : BitVec 8) (f16 : Idx) (f32 : BitVec 32) :
    rsvField (packCmd op rsv f16 f32) = rsv := by
  apply BitVec.eq_of_getLsbD_eq
  intro j hj
  simp only [rsvField, BitVec.getLsbD_extractLsb', getLsbD_packCmd, hj, decide_true, Bool.true_and]
  rw [if_neg (by omega), if_neg (by omega), if_pos (by omega), show 48 + j - 32 - 16 = j by omega]

theorem f16Field_packCmd (op rsv : BitVec 8) (f16 : Idx) (f32 : BitVec 32) :
    f16Field (packCmd op rsv f16 f32) = f16 := by
  apply BitVec.eq_of_getLsbD_eq
  intro j hj
  simp only [f16Field, BitVec.getLsbD_extractLsb', getLsbD_packCmd, hj, decide_true, Bool.true_and]
  rw [if_neg (by omega), if_pos (by omega), show 32 + j - 32 = j by omega]

theorem f32Field_packCmd (op rsv : BitVec 8) (f16 : Idx) (f32 : BitVec 32) :
    f32Field (packCmd op rsv f16 f32) = f32 := by
  apply BitVec.eq_of_getLsbD_eq
  intro j hj
  simp only [f32Field, BitVec.getLsbD_extractLsb', getLsbD_packCmd, hj, decide_true, Bool.true_and]
  rw [if_pos (by omega), Nat.zero_add]

/-- The opcode of a command (R49). -/
def opcodeOf : Instr → BitVec 8
  | .moveOne _ _ => 0x01#8
  | .moveMany _ => 0x02#8
  | .home => 0x03#8
  | .writeDelta _ _ => 0x04#8
  | .setSpeedRpm _ => 0x05#8
  | .setSpeedRad _ => 0x06#8
  | .resize _ => 0x07#8
  | .getMotorCount => 0x08#8
  | .readPos _ => 0x09#8

/-- What the decoder reads from a word whose OP is known and whose RSV is 0 (R49, R51). -/
theorem decode_of_opField {w : Cmd} {op : BitVec 8} (h : opField w = op) (h0 : rsvField w = 0#8) :
    decode w =
      match op.toNat with
      | 0x01 => .ok (.moveOne (f16Field w) (f32Field w))
      | 0x02 => .ok (.moveMany (f16Field w))
      | 0x03 => .ok .home
      | 0x04 => .ok (.writeDelta (f16Field w) (f32Field w))
      | 0x05 => .ok (.setSpeedRpm (f32Field w))
      | 0x06 => .ok (.setSpeedRad (f32Field w))
      | 0x07 => .ok (.resize (f16Field w))
      | 0x08 => .ok .getMotorCount
      | 0x09 => .ok (.readPos (f16Field w))
      | _ => .error .unknownOpcode := by
  subst h
  unfold decode
  exact if_neg (by simp [h0])

end Sys2Proof
end

