-- ==== Sys2Proof/Laws/State.lean ====
section
/-! SUPPORT. What each named update leaves in each field of the state, one lemma per field per update. -/

namespace Sys2Proof.Machine

/-! ### `State.goto` -/

@[simp] theorem State.goto_cfg (s : State) (st : Fsm) : (s.goto st).cfg = s.cfg := rfl
@[simp] theorem State.goto_n (s : State) (st : Fsm) : (s.goto st).n = s.n := rfl
@[simp] theorem State.goto_pos (s : State) (st : Fsm) : (s.goto st).pos = s.pos := rfl
@[simp] theorem State.goto_dbuf (s : State) (st : Fsm) : (s.goto st).dbuf = s.dbuf := rfl
@[simp] theorem State.goto_stepDelay (s : State) (st : Fsm) : (s.goto st).stepDelay = s.stepDelay := rfl
@[simp] theorem State.goto_last (s : State) (st : Fsm) : (s.goto st).last = s.last := rfl
@[simp] theorem State.goto_respStatus (s : State) (st : Fsm) : (s.goto st).respStatus = s.respStatus := rfl
@[simp] theorem State.goto_respData (s : State) (st : Fsm) : (s.goto st).respData = s.respData := rfl
@[simp] theorem State.goto_dataQ (s : State) (st : Fsm) : (s.goto st).dataQ = s.dataQ := rfl
@[simp] theorem State.goto_clkQ (s : State) (st : Fsm) : (s.goto st).clkQ = s.clkQ := rfl
@[simp] theorem State.goto_latchQ (s : State) (st : Fsm) : (s.goto st).latchQ = s.latchQ := rfl
@[simp] theorem State.goto_st (s : State) (st : Fsm) : (s.goto st).st = st := rfl
@[simp] theorem State.goto_moIdx (s : State) (st : Fsm) : (s.goto st).moIdx = s.moIdx := rfl
@[simp] theorem State.goto_moRem (s : State) (st : Fsm) : (s.goto st).moRem = s.moRem := rfl
@[simp] theorem State.goto_mode (s : State) (st : Fsm) : (s.goto st).mode = s.mode := rfl
@[simp] theorem State.goto_m (s : State) (st : Fsm) : (s.goto st).m = s.m := rfl
@[simp] theorem State.goto_rem (s : State) (st : Fsm) : (s.goto st).rem = s.rem := rfl
@[simp] theorem State.goto_i (s : State) (st : Fsm) : (s.goto st).i = s.i := rfl
@[simp] theorem State.goto_zc (s : State) (st : Fsm) : (s.goto st).zc = s.zc := rfl
@[simp] theorem State.goto_maxch (s : State) (st : Fsm) : (s.goto st).maxch = s.maxch := rfl
@[simp] theorem State.goto_a (s : State) (st : Fsm) : (s.goto st).a = s.a := rfl
@[simp] theorem State.goto_ret (s : State) (st : Fsm) : (s.goto st).ret = s.ret := rfl
@[simp] theorem State.goto_fi (s : State) (st : Fsm) : (s.goto st).fi = s.fi := rfl
@[simp] theorem State.goto_bi (s : State) (st : Fsm) : (s.goto st).bi = s.bi := rfl
@[simp] theorem State.goto_sr (s : State) (st : Fsm) : (s.goto st).sr = s.sr := rfl
@[simp] theorem State.goto_inputs (s : State) (st : Fsm) : (s.goto st).inputs = s.inputs := rfl
@[simp] theorem State.goto_freeTick (s : State) (st : Fsm) : (s.goto st).freeTick = s.freeTick := rfl
@[simp] theorem State.goto_pinTrace (s : State) (st : Fsm) : (s.goto st).pinTrace = s.pinTrace := rfl
@[simp] theorem State.goto_gateOpens (s : State) (st : Fsm) : (s.goto st).gateOpens = s.gateOpens := rfl
@[simp] theorem State.goto_pastPins (s : State) (st : Fsm) : (s.goto st).pastPins = s.pastPins := rfl
@[simp] theorem State.goto_pastOpens (s : State) (st : Fsm) : (s.goto st).pastOpens = s.pastOpens := rfl

/-! ### `State.respond` -/

@[simp] theorem State.respond_cfg (s : State) (e : Status) (d : Word) : (s.respond e d).cfg = s.cfg := rfl
@[simp] theorem State.respond_n (s : State) (e : Status) (d : Word) : (s.respond e d).n = s.n := rfl
@[simp] theorem State.respond_pos (s : State) (e : Status) (d : Word) : (s.respond e d).pos = s.pos := rfl
@[simp] theorem State.respond_dbuf (s : State) (e : Status) (d : Word) : (s.respond e d).dbuf = s.dbuf := rfl
@[simp] theorem State.respond_stepDelay (s : State) (e : Status) (d : Word) :
    (s.respond e d).stepDelay = s.stepDelay := rfl
@[simp] theorem State.respond_last (s : State) (e : Status) (d : Word) : (s.respond e d).last = s.last := rfl
@[simp] theorem State.respond_respStatus (s : State) (e : Status) (d : Word) :
    (s.respond e d).respStatus = statusCode e := rfl
@[simp] theorem State.respond_respData (s : State) (e : Status) (d : Word) : (s.respond e d).respData = d := rfl
@[simp] theorem State.respond_dataQ (s : State) (e : Status) (d : Word) : (s.respond e d).dataQ = s.dataQ := rfl
@[simp] theorem State.respond_clkQ (s : State) (e : Status) (d : Word) : (s.respond e d).clkQ = s.clkQ := rfl
@[simp] theorem State.respond_latchQ (s : State) (e : Status) (d : Word) : (s.respond e d).latchQ = s.latchQ := rfl
@[simp] theorem State.respond_st (s : State) (e : Status) (d : Word) : (s.respond e d).st = .done := rfl
@[simp] theorem State.respond_moIdx (s : State) (e : Status) (d : Word) : (s.respond e d).moIdx = s.moIdx := rfl
@[simp] theorem State.respond_moRem (s : State) (e : Status) (d : Word) : (s.respond e d).moRem = s.moRem := rfl
@[simp] theorem State.respond_mode (s : State) (e : Status) (d : Word) : (s.respond e d).mode = s.mode := rfl
@[simp] theorem State.respond_m (s : State) (e : Status) (d : Word) : (s.respond e d).m = s.m := rfl
@[simp] theorem State.respond_rem (s : State) (e : Status) (d : Word) : (s.respond e d).rem = s.rem := rfl
@[simp] theorem State.respond_i (s : State) (e : Status) (d : Word) : (s.respond e d).i = s.i := rfl
@[simp] theorem State.respond_zc (s : State) (e : Status) (d : Word) : (s.respond e d).zc = s.zc := rfl
@[simp] theorem State.respond_maxch (s : State) (e : Status) (d : Word) : (s.respond e d).maxch = s.maxch := rfl
@[simp] theorem State.respond_a (s : State) (e : Status) (d : Word) : (s.respond e d).a = s.a := rfl
@[simp] theorem State.respond_ret (s : State) (e : Status) (d : Word) : (s.respond e d).ret = s.ret := rfl
@[simp] theorem State.respond_fi (s : State) (e : Status) (d : Word) : (s.respond e d).fi = s.fi := rfl
@[simp] theorem State.respond_bi (s : State) (e : Status) (d : Word) : (s.respond e d).bi = s.bi := rfl
@[simp] theorem State.respond_sr (s : State) (e : Status) (d : Word) : (s.respond e d).sr = s.sr := rfl
@[simp] theorem State.respond_inputs (s : State) (e : Status) (d : Word) : (s.respond e d).inputs = s.inputs := rfl
@[simp] theorem State.respond_freeTick (s : State) (e : Status) (d : Word) :
    (s.respond e d).freeTick = s.freeTick := rfl
@[simp] theorem State.respond_pinTrace (s : State) (e : Status) (d : Word) :
    (s.respond e d).pinTrace = s.pinTrace := rfl
@[simp] theorem State.respond_gateOpens (s : State) (e : Status) (d : Word) :
    (s.respond e d).gateOpens = s.gateOpens := rfl
@[simp] theorem State.respond_pastPins (s : State) (e : Status) (d : Word) :
    (s.respond e d).pastPins = s.pastPins := rfl
@[simp] theorem State.respond_pastOpens (s : State) (e : Status) (d : Word) :
    (s.respond e d).pastOpens = s.pastOpens := rfl

/-! ### `State.raise` -/

@[simp] theorem State.raise_cfg (s : State) (e : Status) : (s.raise e).cfg = s.cfg := rfl
@[simp] theorem State.raise_n (s : State) (e : Status) : (s.raise e).n = s.n := rfl
@[simp] theorem State.raise_pos (s : State) (e : Status) : (s.raise e).pos = s.pos := rfl
@[simp] theorem State.raise_dbuf (s : State) (e : Status) : (s.raise e).dbuf = s.dbuf := rfl
@[simp] theorem State.raise_stepDelay (s : State) (e : Status) : (s.raise e).stepDelay = s.stepDelay := rfl
@[simp] theorem State.raise_last (s : State) (e : Status) : (s.raise e).last = s.last := rfl
@[simp] theorem State.raise_respStatus (s : State) (e : Status) : (s.raise e).respStatus = statusCode e := rfl
@[simp] theorem State.raise_respData (s : State) (e : Status) : (s.raise e).respData = 0#32 := rfl
@[simp] theorem State.raise_dataQ (s : State) (e : Status) : (s.raise e).dataQ = s.dataQ := rfl
@[simp] theorem State.raise_clkQ (s : State) (e : Status) : (s.raise e).clkQ = s.clkQ := rfl
@[simp] theorem State.raise_latchQ (s : State) (e : Status) : (s.raise e).latchQ = s.latchQ := rfl
@[simp] theorem State.raise_st (s : State) (e : Status) : (s.raise e).st = .done := rfl
@[simp] theorem State.raise_moIdx (s : State) (e : Status) : (s.raise e).moIdx = s.moIdx := rfl
@[simp] theorem State.raise_moRem (s : State) (e : Status) : (s.raise e).moRem = s.moRem := rfl
@[simp] theorem State.raise_mode (s : State) (e : Status) : (s.raise e).mode = s.mode := rfl
@[simp] theorem State.raise_m (s : State) (e : Status) : (s.raise e).m = s.m := rfl
@[simp] theorem State.raise_rem (s : State) (e : Status) : (s.raise e).rem = s.rem := rfl
@[simp] theorem State.raise_i (s : State) (e : Status) : (s.raise e).i = s.i := rfl
@[simp] theorem State.raise_zc (s : State) (e : Status) : (s.raise e).zc = s.zc := rfl
@[simp] theorem State.raise_maxch (s : State) (e : Status) : (s.raise e).maxch = s.maxch := rfl
@[simp] theorem State.raise_a (s : State) (e : Status) : (s.raise e).a = s.a := rfl
@[simp] theorem State.raise_ret (s : State) (e : Status) : (s.raise e).ret = s.ret := rfl
@[simp] theorem State.raise_fi (s : State) (e : Status) : (s.raise e).fi = s.fi := rfl
@[simp] theorem State.raise_bi (s : State) (e : Status) : (s.raise e).bi = s.bi := rfl
@[simp] theorem State.raise_sr (s : State) (e : Status) : (s.raise e).sr = s.sr := rfl
@[simp] theorem State.raise_inputs (s : State) (e : Status) : (s.raise e).inputs = s.inputs := rfl
@[simp] theorem State.raise_freeTick (s : State) (e : Status) : (s.raise e).freeTick = s.freeTick := rfl
@[simp] theorem State.raise_pinTrace (s : State) (e : Status) : (s.raise e).pinTrace = s.pinTrace := rfl
@[simp] theorem State.raise_gateOpens (s : State) (e : Status) : (s.raise e).gateOpens = s.gateOpens := rfl
@[simp] theorem State.raise_pastPins (s : State) (e : Status) : (s.raise e).pastPins = s.pastPins := rfl
@[simp] theorem State.raise_pastOpens (s : State) (e : Status) : (s.raise e).pastOpens = s.pastOpens := rfl

/-! ### `State.finish` -/

@[simp] theorem State.finish_cfg (s : State) : (s.finish).cfg = s.cfg := rfl
@[simp] theorem State.finish_n (s : State) : (s.finish).n = s.n := rfl
@[simp] theorem State.finish_pos (s : State) : (s.finish).pos = s.pos := rfl
@[simp] theorem State.finish_dbuf (s : State) : (s.finish).dbuf = s.dbuf := rfl
@[simp] theorem State.finish_stepDelay (s : State) : (s.finish).stepDelay = s.stepDelay := rfl
@[simp] theorem State.finish_last (s : State) : (s.finish).last = s.last := rfl
@[simp] theorem State.finish_respStatus (s : State) : (s.finish).respStatus = s.respStatus := rfl
@[simp] theorem State.finish_respData (s : State) : (s.finish).respData = s.respData := rfl
@[simp] theorem State.finish_dataQ (s : State) : (s.finish).dataQ = s.dataQ := rfl
@[simp] theorem State.finish_clkQ (s : State) : (s.finish).clkQ = s.clkQ := rfl
@[simp] theorem State.finish_latchQ (s : State) : (s.finish).latchQ = s.latchQ := rfl
@[simp] theorem State.finish_st (s : State) : (s.finish).st = .idle := rfl
@[simp] theorem State.finish_moIdx (s : State) : (s.finish).moIdx = s.moIdx := rfl
@[simp] theorem State.finish_moRem (s : State) : (s.finish).moRem = s.moRem := rfl
@[simp] theorem State.finish_mode (s : State) : (s.finish).mode = s.mode := rfl
@[simp] theorem State.finish_m (s : State) : (s.finish).m = s.m := rfl
@[simp] theorem State.finish_rem (s : State) : (s.finish).rem = s.rem := rfl
@[simp] theorem State.finish_i (s : State) : (s.finish).i = s.i := rfl
@[simp] theorem State.finish_zc (s : State) : (s.finish).zc = s.zc := rfl
@[simp] theorem State.finish_maxch (s : State) : (s.finish).maxch = s.maxch := rfl
@[simp] theorem State.finish_a (s : State) : (s.finish).a = s.a := rfl
@[simp] theorem State.finish_ret (s : State) : (s.finish).ret = s.ret := rfl
@[simp] theorem State.finish_fi (s : State) : (s.finish).fi = s.fi := rfl
@[simp] theorem State.finish_bi (s : State) : (s.finish).bi = s.bi := rfl
@[simp] theorem State.finish_sr (s : State) : (s.finish).sr = s.sr := rfl
@[simp] theorem State.finish_inputs (s : State) : (s.finish).inputs = s.inputs := rfl
@[simp] theorem State.finish_freeTick (s : State) : (s.finish).freeTick = s.freeTick := rfl
@[simp] theorem State.finish_pinTrace (s : State) : (s.finish).pinTrace = s.pinTrace := rfl
@[simp] theorem State.finish_gateOpens (s : State) : (s.finish).gateOpens = s.gateOpens := rfl
@[simp] theorem State.finish_pastPins (s : State) : (s.finish).pastPins = s.pastPins := rfl
@[simp] theorem State.finish_pastOpens (s : State) : (s.finish).pastOpens = s.pastOpens := rfl

/-! ### `State.drivePin` -/

@[simp] theorem State.drivePin_cfg (s : State) (p : Pin) (v : Bool) : (s.drivePin p v).cfg = s.cfg := rfl
@[simp] theorem State.drivePin_n (s : State) (p : Pin) (v : Bool) : (s.drivePin p v).n = s.n := rfl
@[simp] theorem State.drivePin_pos (s : State) (p : Pin) (v : Bool) : (s.drivePin p v).pos = s.pos := rfl
@[simp] theorem State.drivePin_dbuf (s : State) (p : Pin) (v : Bool) : (s.drivePin p v).dbuf = s.dbuf := rfl
@[simp] theorem State.drivePin_stepDelay (s : State) (p : Pin) (v : Bool) :
    (s.drivePin p v).stepDelay = s.stepDelay := rfl
@[simp] theorem State.drivePin_last (s : State) (p : Pin) (v : Bool) : (s.drivePin p v).last = s.last := rfl
@[simp] theorem State.drivePin_respStatus (s : State) (p : Pin) (v : Bool) :
    (s.drivePin p v).respStatus = s.respStatus := rfl
@[simp] theorem State.drivePin_respData (s : State) (p : Pin) (v : Bool) :
    (s.drivePin p v).respData = s.respData := rfl
@[simp] theorem State.drivePin_dataQ (s : State) (p : Pin) (v : Bool) :
    (s.drivePin p v).dataQ = if p = .data then v else s.dataQ := rfl
@[simp] theorem State.drivePin_clkQ (s : State) (p : Pin) (v : Bool) :
    (s.drivePin p v).clkQ = if p = .clk then v else s.clkQ := rfl
@[simp] theorem State.drivePin_latchQ (s : State) (p : Pin) (v : Bool) :
    (s.drivePin p v).latchQ = if p = .latch then v else s.latchQ := rfl
@[simp] theorem State.drivePin_st (s : State) (p : Pin) (v : Bool) : (s.drivePin p v).st = s.st := rfl
@[simp] theorem State.drivePin_moIdx (s : State) (p : Pin) (v : Bool) : (s.drivePin p v).moIdx = s.moIdx := rfl
@[simp] theorem State.drivePin_moRem (s : State) (p : Pin) (v : Bool) : (s.drivePin p v).moRem = s.moRem := rfl
@[simp] theorem State.drivePin_mode (s : State) (p : Pin) (v : Bool) : (s.drivePin p v).mode = s.mode := rfl
@[simp] theorem State.drivePin_m (s : State) (p : Pin) (v : Bool) : (s.drivePin p v).m = s.m := rfl
@[simp] theorem State.drivePin_rem (s : State) (p : Pin) (v : Bool) : (s.drivePin p v).rem = s.rem := rfl
@[simp] theorem State.drivePin_i (s : State) (p : Pin) (v : Bool) : (s.drivePin p v).i = s.i := rfl
@[simp] theorem State.drivePin_zc (s : State) (p : Pin) (v : Bool) : (s.drivePin p v).zc = s.zc := rfl
@[simp] theorem State.drivePin_maxch (s : State) (p : Pin) (v : Bool) : (s.drivePin p v).maxch = s.maxch := rfl
@[simp] theorem State.drivePin_a (s : State) (p : Pin) (v : Bool) : (s.drivePin p v).a = s.a := rfl
@[simp] theorem State.drivePin_ret (s : State) (p : Pin) (v : Bool) : (s.drivePin p v).ret = s.ret := rfl
@[simp] theorem State.drivePin_fi (s : State) (p : Pin) (v : Bool) : (s.drivePin p v).fi = s.fi := rfl
@[simp] theorem State.drivePin_bi (s : State) (p : Pin) (v : Bool) : (s.drivePin p v).bi = s.bi := rfl
@[simp] theorem State.drivePin_sr (s : State) (p : Pin) (v : Bool) : (s.drivePin p v).sr = s.sr := rfl
@[simp] theorem State.drivePin_inputs (s : State) (p : Pin) (v : Bool) : (s.drivePin p v).inputs = s.inputs := rfl
@[simp] theorem State.drivePin_freeTick (s : State) (p : Pin) (v : Bool) :
    (s.drivePin p v).freeTick = s.freeTick := rfl
@[simp] theorem State.drivePin_pinTrace (s : State) (p : Pin) (v : Bool) :
    (s.drivePin p v).pinTrace = s.pinTrace ++ [⟨p, v⟩] := rfl
@[simp] theorem State.drivePin_gateOpens (s : State) (p : Pin) (v : Bool) :
    (s.drivePin p v).gateOpens = s.gateOpens := rfl
@[simp] theorem State.drivePin_pastPins (s : State) (p : Pin) (v : Bool) :
    (s.drivePin p v).pastPins = s.pastPins := rfl
@[simp] theorem State.drivePin_pastOpens (s : State) (p : Pin) (v : Bool) :
    (s.drivePin p v).pastOpens = s.pastOpens := rfl

/-! ### `State.requestFrame` -/

@[simp] theorem State.requestFrame_cfg (s : State) (a : Idx) (r : Ret) : (s.requestFrame a r).cfg = s.cfg := rfl
@[simp] theorem State.requestFrame_n (s : State) (a : Idx) (r : Ret) : (s.requestFrame a r).n = s.n := rfl
@[simp] theorem State.requestFrame_pos (s : State) (a : Idx) (r : Ret) : (s.requestFrame a r).pos = s.pos := rfl
@[simp] theorem State.requestFrame_dbuf (s : State) (a : Idx) (r : Ret) : (s.requestFrame a r).dbuf = s.dbuf := rfl
@[simp] theorem State.requestFrame_stepDelay (s : State) (a : Idx) (r : Ret) :
    (s.requestFrame a r).stepDelay = s.stepDelay := rfl
@[simp] theorem State.requestFrame_last (s : State) (a : Idx) (r : Ret) : (s.requestFrame a r).last = s.last := rfl
@[simp] theorem State.requestFrame_respStatus (s : State) (a : Idx) (r : Ret) :
    (s.requestFrame a r).respStatus = s.respStatus := rfl
@[simp] theorem State.requestFrame_respData (s : State) (a : Idx) (r : Ret) :
    (s.requestFrame a r).respData = s.respData := rfl
@[simp] theorem State.requestFrame_dataQ (s : State) (a : Idx) (r : Ret) :
    (s.requestFrame a r).dataQ = s.dataQ := rfl
@[simp] theorem State.requestFrame_clkQ (s : State) (a : Idx) (r : Ret) : (s.requestFrame a r).clkQ = s.clkQ := rfl
@[simp] theorem State.requestFrame_latchQ (s : State) (a : Idx) (r : Ret) :
    (s.requestFrame a r).latchQ = s.latchQ := rfl
@[simp] theorem State.requestFrame_st (s : State) (a : Idx) (r : Ret) : (s.requestFrame a r).st = .gate := rfl
@[simp] theorem State.requestFrame_moIdx (s : State) (a : Idx) (r : Ret) :
    (s.requestFrame a r).moIdx = s.moIdx := rfl
@[simp] theorem State.requestFrame_moRem (s : State) (a : Idx) (r : Ret) :
    (s.requestFrame a r).moRem = s.moRem := rfl
@[simp] theorem State.requestFrame_mode (s : State) (a : Idx) (r : Ret) : (s.requestFrame a r).mode = s.mode := rfl
@[simp] theorem State.requestFrame_m (s : State) (a : Idx) (r : Ret) : (s.requestFrame a r).m = s.m := rfl
@[simp] theorem State.requestFrame_rem (s : State) (a : Idx) (r : Ret) : (s.requestFrame a r).rem = s.rem := rfl
@[simp] theorem State.requestFrame_i (s : State) (a : Idx) (r : Ret) : (s.requestFrame a r).i = s.i := rfl
@[simp] theorem State.requestFrame_zc (s : State) (a : Idx) (r : Ret) : (s.requestFrame a r).zc = s.zc := rfl
@[simp] theorem State.requestFrame_maxch (s : State) (a : Idx) (r : Ret) :
    (s.requestFrame a r).maxch = s.maxch := rfl
@[simp] theorem State.requestFrame_a (s : State) (a : Idx) (r : Ret) : (s.requestFrame a r).a = a := rfl
@[simp] theorem State.requestFrame_ret (s : State) (a : Idx) (r : Ret) : (s.requestFrame a r).ret = r := rfl
@[simp] theorem State.requestFrame_fi (s : State) (a : Idx) (r : Ret) : (s.requestFrame a r).fi = s.fi := rfl
@[simp] theorem State.requestFrame_bi (s : State) (a : Idx) (r : Ret) : (s.requestFrame a r).bi = s.bi := rfl
@[simp] theorem State.requestFrame_sr (s : State) (a : Idx) (r : Ret) : (s.requestFrame a r).sr = s.sr := rfl
@[simp] theorem State.requestFrame_inputs (s : State) (a : Idx) (r : Ret) :
    (s.requestFrame a r).inputs = s.inputs := rfl
@[simp] theorem State.requestFrame_freeTick (s : State) (a : Idx) (r : Ret) :
    (s.requestFrame a r).freeTick = s.freeTick := rfl
@[simp] theorem State.requestFrame_pinTrace (s : State) (a : Idx) (r : Ret) :
    (s.requestFrame a r).pinTrace = s.pinTrace := rfl
@[simp] theorem State.requestFrame_gateOpens (s : State) (a : Idx) (r : Ret) :
    (s.requestFrame a r).gateOpens = s.gateOpens := rfl
@[simp] theorem State.requestFrame_pastPins (s : State) (a : Idx) (r : Ret) :
    (s.requestFrame a r).pastPins = s.pastPins := rfl
@[simp] theorem State.requestFrame_pastOpens (s : State) (a : Idx) (r : Ret) :
    (s.requestFrame a r).pastOpens = s.pastOpens := rfl

/-! ### `State.startPass` -/

@[simp] theorem State.startPass_cfg (s : State) : (s.startPass).cfg = s.cfg := rfl
@[simp] theorem State.startPass_n (s : State) : (s.startPass).n = s.n := rfl
@[simp] theorem State.startPass_pos (s : State) : (s.startPass).pos = s.pos := rfl
@[simp] theorem State.startPass_dbuf (s : State) : (s.startPass).dbuf = s.dbuf := rfl
@[simp] theorem State.startPass_stepDelay (s : State) : (s.startPass).stepDelay = s.stepDelay := rfl
@[simp] theorem State.startPass_last (s : State) : (s.startPass).last = s.last := rfl
@[simp] theorem State.startPass_respStatus (s : State) : (s.startPass).respStatus = s.respStatus := rfl
@[simp] theorem State.startPass_respData (s : State) : (s.startPass).respData = s.respData := rfl
@[simp] theorem State.startPass_dataQ (s : State) : (s.startPass).dataQ = s.dataQ := rfl
@[simp] theorem State.startPass_clkQ (s : State) : (s.startPass).clkQ = s.clkQ := rfl
@[simp] theorem State.startPass_latchQ (s : State) : (s.startPass).latchQ = s.latchQ := rfl
@[simp] theorem State.startPass_st (s : State) : (s.startPass).st = .mmPass := rfl
@[simp] theorem State.startPass_moIdx (s : State) : (s.startPass).moIdx = s.moIdx := rfl
@[simp] theorem State.startPass_moRem (s : State) : (s.startPass).moRem = s.moRem := rfl
@[simp] theorem State.startPass_mode (s : State) : (s.startPass).mode = s.mode := rfl
@[simp] theorem State.startPass_m (s : State) : (s.startPass).m = s.m := rfl
@[simp] theorem State.startPass_rem (s : State) : (s.startPass).rem = s.rem := rfl
@[simp] theorem State.startPass_i (s : State) : (s.startPass).i = 0#16 := rfl
@[simp] theorem State.startPass_zc (s : State) : (s.startPass).zc = 0#16 := rfl
@[simp] theorem State.startPass_maxch (s : State) : (s.startPass).maxch = 0#16 := rfl
@[simp] theorem State.startPass_a (s : State) : (s.startPass).a = s.a := rfl
@[simp] theorem State.startPass_ret (s : State) : (s.startPass).ret = s.ret := rfl
@[simp] theorem State.startPass_fi (s : State) : (s.startPass).fi = s.fi := rfl
@[simp] theorem State.startPass_bi (s : State) : (s.startPass).bi = s.bi := rfl
@[simp] theorem State.startPass_sr (s : State) : (s.startPass).sr = s.sr := rfl
@[simp] theorem State.startPass_inputs (s : State) : (s.startPass).inputs = s.inputs := rfl
@[simp] theorem State.startPass_freeTick (s : State) : (s.startPass).freeTick = s.freeTick := rfl
@[simp] theorem State.startPass_pinTrace (s : State) : (s.startPass).pinTrace = s.pinTrace := rfl
@[simp] theorem State.startPass_gateOpens (s : State) : (s.startPass).gateOpens = s.gateOpens := rfl
@[simp] theorem State.startPass_pastPins (s : State) : (s.startPass).pastPins = s.pastPins := rfl
@[simp] theorem State.startPass_pastOpens (s : State) : (s.startPass).pastOpens = s.pastOpens := rfl

/-! ### `State.setPos` -/

@[simp] theorem State.setPos_cfg (s : State) (k : Idx) (v : Counter) : (s.setPos k v).cfg = s.cfg := rfl
@[simp] theorem State.setPos_n (s : State) (k : Idx) (v : Counter) : (s.setPos k v).n = s.n := rfl
@[simp] theorem State.setPos_pos (s : State) (k : Idx) (v : Counter) :
    (s.setPos k v).pos = s.pos.set k.toNat v := rfl
@[simp] theorem State.setPos_dbuf (s : State) (k : Idx) (v : Counter) : (s.setPos k v).dbuf = s.dbuf := rfl
@[simp] theorem State.setPos_stepDelay (s : State) (k : Idx) (v : Counter) :
    (s.setPos k v).stepDelay = s.stepDelay := rfl
@[simp] theorem State.setPos_last (s : State) (k : Idx) (v : Counter) : (s.setPos k v).last = s.last := rfl
@[simp] theorem State.setPos_respStatus (s : State) (k : Idx) (v : Counter) :
    (s.setPos k v).respStatus = s.respStatus := rfl
@[simp] theorem State.setPos_respData (s : State) (k : Idx) (v : Counter) :
    (s.setPos k v).respData = s.respData := rfl
@[simp] theorem State.setPos_dataQ (s : State) (k : Idx) (v : Counter) : (s.setPos k v).dataQ = s.dataQ := rfl
@[simp] theorem State.setPos_clkQ (s : State) (k : Idx) (v : Counter) : (s.setPos k v).clkQ = s.clkQ := rfl
@[simp] theorem State.setPos_latchQ (s : State) (k : Idx) (v : Counter) : (s.setPos k v).latchQ = s.latchQ := rfl
@[simp] theorem State.setPos_st (s : State) (k : Idx) (v : Counter) : (s.setPos k v).st = s.st := rfl
@[simp] theorem State.setPos_moIdx (s : State) (k : Idx) (v : Counter) : (s.setPos k v).moIdx = s.moIdx := rfl
@[simp] theorem State.setPos_moRem (s : State) (k : Idx) (v : Counter) : (s.setPos k v).moRem = s.moRem := rfl
@[simp] theorem State.setPos_mode (s : State) (k : Idx) (v : Counter) : (s.setPos k v).mode = s.mode := rfl
@[simp] theorem State.setPos_m (s : State) (k : Idx) (v : Counter) : (s.setPos k v).m = s.m := rfl
@[simp] theorem State.setPos_rem (s : State) (k : Idx) (v : Counter) : (s.setPos k v).rem = s.rem := rfl
@[simp] theorem State.setPos_i (s : State) (k : Idx) (v : Counter) : (s.setPos k v).i = s.i := rfl
@[simp] theorem State.setPos_zc (s : State) (k : Idx) (v : Counter) : (s.setPos k v).zc = s.zc := rfl
@[simp] theorem State.setPos_maxch (s : State) (k : Idx) (v : Counter) : (s.setPos k v).maxch = s.maxch := rfl
@[simp] theorem State.setPos_a (s : State) (k : Idx) (v : Counter) : (s.setPos k v).a = s.a := rfl
@[simp] theorem State.setPos_ret (s : State) (k : Idx) (v : Counter) : (s.setPos k v).ret = s.ret := rfl
@[simp] theorem State.setPos_fi (s : State) (k : Idx) (v : Counter) : (s.setPos k v).fi = s.fi := rfl
@[simp] theorem State.setPos_bi (s : State) (k : Idx) (v : Counter) : (s.setPos k v).bi = s.bi := rfl
@[simp] theorem State.setPos_sr (s : State) (k : Idx) (v : Counter) : (s.setPos k v).sr = s.sr := rfl
@[simp] theorem State.setPos_inputs (s : State) (k : Idx) (v : Counter) : (s.setPos k v).inputs = s.inputs := rfl
@[simp] theorem State.setPos_freeTick (s : State) (k : Idx) (v : Counter) :
    (s.setPos k v).freeTick = s.freeTick := rfl
@[simp] theorem State.setPos_pinTrace (s : State) (k : Idx) (v : Counter) :
    (s.setPos k v).pinTrace = s.pinTrace := rfl
@[simp] theorem State.setPos_gateOpens (s : State) (k : Idx) (v : Counter) :
    (s.setPos k v).gateOpens = s.gateOpens := rfl
@[simp] theorem State.setPos_pastPins (s : State) (k : Idx) (v : Counter) :
    (s.setPos k v).pastPins = s.pastPins := rfl
@[simp] theorem State.setPos_pastOpens (s : State) (k : Idx) (v : Counter) :
    (s.setPos k v).pastOpens = s.pastOpens := rfl

/-! ### `State.setDbuf` -/

@[simp] theorem State.setDbuf_cfg (s : State) (k : Idx) (v : Counter) : (s.setDbuf k v).cfg = s.cfg := rfl
@[simp] theorem State.setDbuf_n (s : State) (k : Idx) (v : Counter) : (s.setDbuf k v).n = s.n := rfl
@[simp] theorem State.setDbuf_pos (s : State) (k : Idx) (v : Counter) : (s.setDbuf k v).pos = s.pos := rfl
@[simp] theorem State.setDbuf_dbuf (s : State) (k : Idx) (v : Counter) :
    (s.setDbuf k v).dbuf = s.dbuf.set k.toNat v := rfl
@[simp] theorem State.setDbuf_stepDelay (s : State) (k : Idx) (v : Counter) :
    (s.setDbuf k v).stepDelay = s.stepDelay := rfl
@[simp] theorem State.setDbuf_last (s : State) (k : Idx) (v : Counter) : (s.setDbuf k v).last = s.last := rfl
@[simp] theorem State.setDbuf_respStatus (s : State) (k : Idx) (v : Counter) :
    (s.setDbuf k v).respStatus = s.respStatus := rfl
@[simp] theorem State.setDbuf_respData (s : State) (k : Idx) (v : Counter) :
    (s.setDbuf k v).respData = s.respData := rfl
@[simp] theorem State.setDbuf_dataQ (s : State) (k : Idx) (v : Counter) : (s.setDbuf k v).dataQ = s.dataQ := rfl
@[simp] theorem State.setDbuf_clkQ (s : State) (k : Idx) (v : Counter) : (s.setDbuf k v).clkQ = s.clkQ := rfl
@[simp] theorem State.setDbuf_latchQ (s : State) (k : Idx) (v : Counter) : (s.setDbuf k v).latchQ = s.latchQ := rfl
@[simp] theorem State.setDbuf_st (s : State) (k : Idx) (v : Counter) : (s.setDbuf k v).st = s.st := rfl
@[simp] theorem State.setDbuf_moIdx (s : State) (k : Idx) (v : Counter) : (s.setDbuf k v).moIdx = s.moIdx := rfl
@[simp] theorem State.setDbuf_moRem (s : State) (k : Idx) (v : Counter) : (s.setDbuf k v).moRem = s.moRem := rfl
@[simp] theorem State.setDbuf_mode (s : State) (k : Idx) (v : Counter) : (s.setDbuf k v).mode = s.mode := rfl
@[simp] theorem State.setDbuf_m (s : State) (k : Idx) (v : Counter) : (s.setDbuf k v).m = s.m := rfl
@[simp] theorem State.setDbuf_rem (s : State) (k : Idx) (v : Counter) : (s.setDbuf k v).rem = s.rem := rfl
@[simp] theorem State.setDbuf_i (s : State) (k : Idx) (v : Counter) : (s.setDbuf k v).i = s.i := rfl
@[simp] theorem State.setDbuf_zc (s : State) (k : Idx) (v : Counter) : (s.setDbuf k v).zc = s.zc := rfl
@[simp] theorem State.setDbuf_maxch (s : State) (k : Idx) (v : Counter) : (s.setDbuf k v).maxch = s.maxch := rfl
@[simp] theorem State.setDbuf_a (s : State) (k : Idx) (v : Counter) : (s.setDbuf k v).a = s.a := rfl
@[simp] theorem State.setDbuf_ret (s : State) (k : Idx) (v : Counter) : (s.setDbuf k v).ret = s.ret := rfl
@[simp] theorem State.setDbuf_fi (s : State) (k : Idx) (v : Counter) : (s.setDbuf k v).fi = s.fi := rfl
@[simp] theorem State.setDbuf_bi (s : State) (k : Idx) (v : Counter) : (s.setDbuf k v).bi = s.bi := rfl
@[simp] theorem State.setDbuf_sr (s : State) (k : Idx) (v : Counter) : (s.setDbuf k v).sr = s.sr := rfl
@[simp] theorem State.setDbuf_inputs (s : State) (k : Idx) (v : Counter) : (s.setDbuf k v).inputs = s.inputs := rfl
@[simp] theorem State.setDbuf_freeTick (s : State) (k : Idx) (v : Counter) :
    (s.setDbuf k v).freeTick = s.freeTick := rfl
@[simp] theorem State.setDbuf_pinTrace (s : State) (k : Idx) (v : Counter) :
    (s.setDbuf k v).pinTrace = s.pinTrace := rfl
@[simp] theorem State.setDbuf_gateOpens (s : State) (k : Idx) (v : Counter) :
    (s.setDbuf k v).gateOpens = s.gateOpens := rfl
@[simp] theorem State.setDbuf_pastPins (s : State) (k : Idx) (v : Counter) :
    (s.setDbuf k v).pastPins = s.pastPins := rfl
@[simp] theorem State.setDbuf_pastOpens (s : State) (k : Idx) (v : Counter) :
    (s.setDbuf k v).pastOpens = s.pastOpens := rfl

/-! ### `State.setRem` -/

@[simp] theorem State.setRem_cfg (s : State) (k : Idx) (v : Counter) : (s.setRem k v).cfg = s.cfg := rfl
@[simp] theorem State.setRem_n (s : State) (k : Idx) (v : Counter) : (s.setRem k v).n = s.n := rfl
@[simp] theorem State.setRem_pos (s : State) (k : Idx) (v : Counter) : (s.setRem k v).pos = s.pos := rfl
@[simp] theorem State.setRem_dbuf (s : State) (k : Idx) (v : Counter) : (s.setRem k v).dbuf = s.dbuf := rfl
@[simp] theorem State.setRem_stepDelay (s : State) (k : Idx) (v : Counter) :
    (s.setRem k v).stepDelay = s.stepDelay := rfl
@[simp] theorem State.setRem_last (s : State) (k : Idx) (v : Counter) : (s.setRem k v).last = s.last := rfl
@[simp] theorem State.setRem_respStatus (s : State) (k : Idx) (v : Counter) :
    (s.setRem k v).respStatus = s.respStatus := rfl
@[simp] theorem State.setRem_respData (s : State) (k : Idx) (v : Counter) :
    (s.setRem k v).respData = s.respData := rfl
@[simp] theorem State.setRem_dataQ (s : State) (k : Idx) (v : Counter) : (s.setRem k v).dataQ = s.dataQ := rfl
@[simp] theorem State.setRem_clkQ (s : State) (k : Idx) (v : Counter) : (s.setRem k v).clkQ = s.clkQ := rfl
@[simp] theorem State.setRem_latchQ (s : State) (k : Idx) (v : Counter) : (s.setRem k v).latchQ = s.latchQ := rfl
@[simp] theorem State.setRem_st (s : State) (k : Idx) (v : Counter) : (s.setRem k v).st = s.st := rfl
@[simp] theorem State.setRem_moIdx (s : State) (k : Idx) (v : Counter) : (s.setRem k v).moIdx = s.moIdx := rfl
@[simp] theorem State.setRem_moRem (s : State) (k : Idx) (v : Counter) : (s.setRem k v).moRem = s.moRem := rfl
@[simp] theorem State.setRem_mode (s : State) (k : Idx) (v : Counter) : (s.setRem k v).mode = s.mode := rfl
@[simp] theorem State.setRem_m (s : State) (k : Idx) (v : Counter) : (s.setRem k v).m = s.m := rfl
@[simp] theorem State.setRem_rem (s : State) (k : Idx) (v : Counter) :
    (s.setRem k v).rem = s.rem.set k.toNat v := rfl
@[simp] theorem State.setRem_i (s : State) (k : Idx) (v : Counter) : (s.setRem k v).i = s.i := rfl
@[simp] theorem State.setRem_zc (s : State) (k : Idx) (v : Counter) : (s.setRem k v).zc = s.zc := rfl
@[simp] theorem State.setRem_maxch (s : State) (k : Idx) (v : Counter) : (s.setRem k v).maxch = s.maxch := rfl
@[simp] theorem State.setRem_a (s : State) (k : Idx) (v : Counter) : (s.setRem k v).a = s.a := rfl
@[simp] theorem State.setRem_ret (s : State) (k : Idx) (v : Counter) : (s.setRem k v).ret = s.ret := rfl
@[simp] theorem State.setRem_fi (s : State) (k : Idx) (v : Counter) : (s.setRem k v).fi = s.fi := rfl
@[simp] theorem State.setRem_bi (s : State) (k : Idx) (v : Counter) : (s.setRem k v).bi = s.bi := rfl
@[simp] theorem State.setRem_sr (s : State) (k : Idx) (v : Counter) : (s.setRem k v).sr = s.sr := rfl
@[simp] theorem State.setRem_inputs (s : State) (k : Idx) (v : Counter) : (s.setRem k v).inputs = s.inputs := rfl
@[simp] theorem State.setRem_freeTick (s : State) (k : Idx) (v : Counter) :
    (s.setRem k v).freeTick = s.freeTick := rfl
@[simp] theorem State.setRem_pinTrace (s : State) (k : Idx) (v : Counter) :
    (s.setRem k v).pinTrace = s.pinTrace := rfl
@[simp] theorem State.setRem_gateOpens (s : State) (k : Idx) (v : Counter) :
    (s.setRem k v).gateOpens = s.gateOpens := rfl
@[simp] theorem State.setRem_pastPins (s : State) (k : Idx) (v : Counter) :
    (s.setRem k v).pastPins = s.pastPins := rfl
@[simp] theorem State.setRem_pastOpens (s : State) (k : Idx) (v : Counter) :
    (s.setRem k v).pastOpens = s.pastOpens := rfl

/-! ### `State.resetCycle` -/

@[simp] theorem State.resetCycle_cfg (s : State) (now : Time) : (s.resetCycle now).cfg = s.cfg := rfl
@[simp] theorem State.resetCycle_n (s : State) (now : Time) :
    (s.resetCycle now).n = BitVec.ofNat 16 s.cfg.nInit := rfl
@[simp] theorem State.resetCycle_pos (s : State) (now : Time) :
    (s.resetCycle now).pos = List.replicate s.cfg.nmax 0#32 := rfl
@[simp] theorem State.resetCycle_dbuf (s : State) (now : Time) :
    (s.resetCycle now).dbuf = List.replicate s.cfg.nmax 0#32 := rfl
@[simp] theorem State.resetCycle_stepDelay (s : State) (now : Time) :
    (s.resetCycle now).stepDelay = delayRpm s.cfg defaultRpm := rfl
@[simp] theorem State.resetCycle_last (s : State) (now : Time) : (s.resetCycle now).last = now := rfl
@[simp] theorem State.resetCycle_respStatus (s : State) (now : Time) : (s.resetCycle now).respStatus = 0#4 := rfl
@[simp] theorem State.resetCycle_respData (s : State) (now : Time) : (s.resetCycle now).respData = 0#32 := rfl
@[simp] theorem State.resetCycle_dataQ (s : State) (now : Time) : (s.resetCycle now).dataQ = false := rfl
@[simp] theorem State.resetCycle_clkQ (s : State) (now : Time) : (s.resetCycle now).clkQ = false := rfl
@[simp] theorem State.resetCycle_latchQ (s : State) (now : Time) : (s.resetCycle now).latchQ = false := rfl
@[simp] theorem State.resetCycle_st (s : State) (now : Time) : (s.resetCycle now).st = .idle := rfl
@[simp] theorem State.resetCycle_moIdx (s : State) (now : Time) : (s.resetCycle now).moIdx = 0#16 := rfl
@[simp] theorem State.resetCycle_moRem (s : State) (now : Time) : (s.resetCycle now).moRem = 0#32 := rfl
@[simp] theorem State.resetCycle_mode (s : State) (now : Time) : (s.resetCycle now).mode = .many := rfl
@[simp] theorem State.resetCycle_m (s : State) (now : Time) : (s.resetCycle now).m = 0#16 := rfl
@[simp] theorem State.resetCycle_rem (s : State) (now : Time) :
    (s.resetCycle now).rem = List.replicate s.cfg.nmax 0#32 := rfl
@[simp] theorem State.resetCycle_i (s : State) (now : Time) : (s.resetCycle now).i = 0#16 := rfl
@[simp] theorem State.resetCycle_zc (s : State) (now : Time) : (s.resetCycle now).zc = 0#16 := rfl
@[simp] theorem State.resetCycle_maxch (s : State) (now : Time) : (s.resetCycle now).maxch = 0#16 := rfl
@[simp] theorem State.resetCycle_a (s : State) (now : Time) : (s.resetCycle now).a = 0#16 := rfl
@[simp] theorem State.resetCycle_ret (s : State) (now : Time) : (s.resetCycle now).ret = .mmCheck := rfl
@[simp] theorem State.resetCycle_fi (s : State) (now : Time) : (s.resetCycle now).fi = 0#16 := rfl
@[simp] theorem State.resetCycle_bi (s : State) (now : Time) : (s.resetCycle now).bi = 0#3 := rfl
@[simp] theorem State.resetCycle_sr (s : State) (now : Time) : (s.resetCycle now).sr = 0#8 := rfl
@[simp] theorem State.resetCycle_inputs (s : State) (now : Time) : (s.resetCycle now).inputs = s.inputs := rfl
@[simp] theorem State.resetCycle_freeTick (s : State) (now : Time) : (s.resetCycle now).freeTick = s.freeTick := rfl
@[simp] theorem State.resetCycle_pinTrace (s : State) (now : Time) : (s.resetCycle now).pinTrace = [] := rfl
@[simp] theorem State.resetCycle_gateOpens (s : State) (now : Time) : (s.resetCycle now).gateOpens = [] := rfl
@[simp] theorem State.resetCycle_pastPins (s : State) (now : Time) :
    (s.resetCycle now).pastPins = s.pastPins ++ s.pinTrace := rfl
@[simp] theorem State.resetCycle_pastOpens (s : State) (now : Time) :
    (s.resetCycle now).pastOpens = s.pastOpens ++ s.gateOpens := rfl

/-! ### `State.dropInput` -/

@[simp] theorem State.dropInput_cfg (s : State) : s.dropInput.cfg = s.cfg := by
  unfold State.dropInput; split <;> rfl
@[simp] theorem State.dropInput_n (s : State) : s.dropInput.n = s.n := by
  unfold State.dropInput; split <;> rfl
@[simp] theorem State.dropInput_pos (s : State) : s.dropInput.pos = s.pos := by
  unfold State.dropInput; split <;> rfl
@[simp] theorem State.dropInput_dbuf (s : State) : s.dropInput.dbuf = s.dbuf := by
  unfold State.dropInput; split <;> rfl
@[simp] theorem State.dropInput_stepDelay (s : State) : s.dropInput.stepDelay = s.stepDelay := by
  unfold State.dropInput; split <;> rfl
@[simp] theorem State.dropInput_last (s : State) : s.dropInput.last = s.last := by
  unfold State.dropInput; split <;> rfl
@[simp] theorem State.dropInput_respStatus (s : State) : s.dropInput.respStatus = s.respStatus := by
  unfold State.dropInput; split <;> rfl
@[simp] theorem State.dropInput_respData (s : State) : s.dropInput.respData = s.respData := by
  unfold State.dropInput; split <;> rfl
@[simp] theorem State.dropInput_dataQ (s : State) : s.dropInput.dataQ = s.dataQ := by
  unfold State.dropInput; split <;> rfl
@[simp] theorem State.dropInput_clkQ (s : State) : s.dropInput.clkQ = s.clkQ := by
  unfold State.dropInput; split <;> rfl
@[simp] theorem State.dropInput_latchQ (s : State) : s.dropInput.latchQ = s.latchQ := by
  unfold State.dropInput; split <;> rfl
@[simp] theorem State.dropInput_st (s : State) : s.dropInput.st = s.st := by
  unfold State.dropInput; split <;> rfl
@[simp] theorem State.dropInput_moIdx (s : State) : s.dropInput.moIdx = s.moIdx := by
  unfold State.dropInput; split <;> rfl
@[simp] theorem State.dropInput_moRem (s : State) : s.dropInput.moRem = s.moRem := by
  unfold State.dropInput; split <;> rfl
@[simp] theorem State.dropInput_mode (s : State) : s.dropInput.mode = s.mode := by
  unfold State.dropInput; split <;> rfl
@[simp] theorem State.dropInput_m (s : State) : s.dropInput.m = s.m := by
  unfold State.dropInput; split <;> rfl
@[simp] theorem State.dropInput_rem (s : State) : s.dropInput.rem = s.rem := by
  unfold State.dropInput; split <;> rfl
@[simp] theorem State.dropInput_i (s : State) : s.dropInput.i = s.i := by
  unfold State.dropInput; split <;> rfl
@[simp] theorem State.dropInput_zc (s : State) : s.dropInput.zc = s.zc := by
  unfold State.dropInput; split <;> rfl
@[simp] theorem State.dropInput_maxch (s : State) : s.dropInput.maxch = s.maxch := by
  unfold State.dropInput; split <;> rfl
@[simp] theorem State.dropInput_a (s : State) : s.dropInput.a = s.a := by
  unfold State.dropInput; split <;> rfl
@[simp] theorem State.dropInput_ret (s : State) : s.dropInput.ret = s.ret := by
  unfold State.dropInput; split <;> rfl
@[simp] theorem State.dropInput_fi (s : State) : s.dropInput.fi = s.fi := by
  unfold State.dropInput; split <;> rfl
@[simp] theorem State.dropInput_bi (s : State) : s.dropInput.bi = s.bi := by
  unfold State.dropInput; split <;> rfl
@[simp] theorem State.dropInput_sr (s : State) : s.dropInput.sr = s.sr := by
  unfold State.dropInput; split <;> rfl
@[simp] theorem State.dropInput_pinTrace (s : State) : s.dropInput.pinTrace = s.pinTrace := by
  unfold State.dropInput; split <;> rfl
@[simp] theorem State.dropInput_gateOpens (s : State) : s.dropInput.gateOpens = s.gateOpens := by
  unfold State.dropInput; split <;> rfl
@[simp] theorem State.dropInput_pastPins (s : State) : s.dropInput.pastPins = s.pastPins := by
  unfold State.dropInput; split <;> rfl
@[simp] theorem State.dropInput_pastOpens (s : State) : s.dropInput.pastOpens = s.pastOpens := by
  unfold State.dropInput; split <;> rfl

@[simp] theorem State.dropInput_inputs (s : State) : s.dropInput.inputs = s.inputs.tail := by
  unfold State.dropInput; split <;> simp_all

end Sys2Proof.Machine
end

