-- ==== Sys2Proof/Laws/Ops.lean ====
section
/-! SUPPORT. What each shared operation can do, said once; and the integer notation of R6 as facts. -/

namespace Sys2Proof.Machine

/-! ### Array access -/

/-- If an array access goes on, the element exists and the continuation gave the answer. -/
theorem withEntry_next {xs : List Counter} {k : Idx} {f : Counter → Result} {t : State}
    (h : withEntry xs k f = .next t) : ∃ v, xs[k.toNat]? = some v ∧ f v = .next t := by
  unfold withEntry at h
  split at h
  · exact ⟨_, ‹_›, h⟩
  · cases h

/-- An access below the length goes on with the element. -/
theorem withEntry_of_lt {xs : List Counter} {k : Idx} (f : Counter → Result)
    (h : k.toNat < xs.length) : withEntry xs k f = f xs[k.toNat] := by
  simp [withEntry, h]

/-- The only way an array access stops by itself is `indexOutOfRange`, at or beyond the length. -/
theorem withEntry_of_le {xs : List Counter} {k : Idx} (f : Counter → Result)
    (h : xs.length ≤ k.toNat) : withEntry xs k f = .fault .indexOutOfRange := by
  simp [withEntry, h]

/-! ### Integer notation -/

@[simp] theorem wrap32_s32 (p : Counter) : wrap32 (s32 p) = p := by simp [wrap32, s32]

theorem s32_wrap32 {x : Int} (h : -2 ^ 31 ≤ x) (h' : x < 2 ^ 31) : s32 (wrap32 x) = x := by
  unfold s32 wrap32
  rw [BitVec.toInt_ofInt, Int.bmod_def]
  omega

theorem s32_ge (p : Counter) : -2 ^ 31 ≤ s32 p := by
  have := BitVec.two_mul_toInt_lt (x := p); have := BitVec.le_two_mul_toInt (x := p)
  unfold s32; omega

theorem s32_lt (p : Counter) : s32 p < 2 ^ 31 := by
  have := BitVec.two_mul_toInt_lt (x := p); have := BitVec.le_two_mul_toInt (x := p)
  unfold s32; omega

@[simp] theorem s32_zero : s32 0#32 = 0 := rfl

theorem s32_inj {p q : Counter} : s32 p = s32 q ↔ p = q := BitVec.toInt_inj

/-- wrap32 only looks at its argument modulo 2^32. -/
theorem wrap32_add (x y : Int) : wrap32 (s32 (wrap32 x) + y) = wrap32 (x + y) := by
  unfold s32 wrap32
  apply BitVec.eq_of_toInt_eq
  simp [BitVec.toInt_ofInt]

theorem unitStep_of_pos {d : Counter} (h : 0 < s32 d) : unitStep d = 1 := by simp [unitStep, h]

theorem unitStep_of_neg {d : Counter} (h : s32 d < 0) : unitStep d = -1 := by
  simp [unitStep, Int.not_lt.mpr (Int.le_of_lt h)]

/-- A unit step toward zero never overflows (R99, R107, R115). -/
theorem s32_toward_zero (d : Counter) :
    s32 (wrap32 (s32 d - unitStep d)) = s32 d - unitStep d := by
  have := s32_ge d; have := s32_lt d
  apply s32_wrap32 <;> unfold unitStep <;> split <;> omega

/-- The phase index is below CYCLE (R16, R62). -/
theorem emod_lt (a : Int) {m : Nat} (h : 1 ≤ m) : emod a m < m := by
  have h1 := Int.emod_nonneg a (b := (m : Int)) (by omega)
  have h2 := Int.emod_lt_of_pos a (b := (m : Int)) (by omega)
  unfold emod; omega

/-- With a well-formed configuration every counter selects an entry of the phase table (R16, R62). -/
theorem phase_some {c : Config} (h : c.WellFormed) (p : Counter) : ∃ v, phase c p = some v := by
  have h1 := emod_lt (s32 p) h.2.2.2.2.1.1
  have h2 := h.2.2.2.2.2
  exact ⟨c.phaseTable[emod (s32 p) c.cycle]'(by omega), by simp [phase, rom, h2, h1]⟩

/-- The effective active count covers at least one motor and at most all (R74). -/
theorem activeCount_bounds (c : Config) {a n : Idx} (h : 1 ≤ n.toNat) :
    1 ≤ (activeCount c a n).toNat ∧ (activeCount c a n).toNat ≤ n.toNat := by
  unfold activeCount
  split
  · omega
  · rename_i hc
    have : a.toNat ≠ 0 := fun h0 => hc (.inr (.inl (BitVec.eq_of_toNat_eq h0)))
    omega

theorem wrap32_add_one (p : Counter) : wrap32 (s32 p + 1) = p + 1#32 := by
  apply BitVec.eq_of_toInt_eq
  simp [wrap32, s32, BitVec.toInt_ofInt, BitVec.toInt_add]

theorem wrap32_sub_one (p : Counter) : wrap32 (s32 p - 1) = p - 1#32 := by
  apply BitVec.eq_of_toInt_eq
  simp [wrap32, s32, BitVec.toInt_ofInt, BitVec.toInt_sub]

/-! ### Indices -/

/-- An index below another one increments without wrapping. -/
theorem idx_succ {a b : Idx} (h : a.toNat < b.toNat) : (a + 1#16).toNat = a.toNat + 1 := by
  have := b.isLt
  rw [BitVec.toNat_add]
  simp
  omega

/-- An index that is not 0 decrements without wrapping. -/
theorem idx_pred {a : Idx} (h : a ≠ 0#16) : (a - 1#16).toNat = a.toNat - 1 := by
  have : a.toNat ≠ 0 := fun h' => h (BitVec.eq_of_toNat_eq h')
  have := a.isLt
  rw [BitVec.toNat_sub]
  simp
  omega

/-! ### The status codes -/

theorem statusCode_le (e : Status) : (statusCode e).toNat ≤ 4 := by cases e <;> decide

theorem statusCode_inj {e e' : Status} (h : statusCode e = statusCode e') : e = e' := by
  revert h; cases e <;> cases e' <;> decide

end Sys2Proof.Machine
end

