-- ==== Sys2Proof/Laws/Run.lean ====
section
/-! SUPPORT. Steps and runs: what a step of each state is, and how runs compose. -/

namespace Sys2Proof.Machine

/-! ### One step -/

theorem step_eq_cycle {s : State} (h : s.cfg.WellFormed) : step s = cycle s.nextInput s.dropInput := by
  unfold step; rw [if_pos h]

/-- A step that answers is one cycle of a well-formed configuration. -/
theorem step_next {s t : State} (h : step s = .next t) :
    s.cfg.WellFormed ∧ cycle s.nextInput s.dropInput = .next t := by
  unfold step at h
  split at h
  · exact ⟨‹_›, h⟩
  · cases h

theorem step_refused {s : State} (h : ¬ s.cfg.WellFormed) : step s = .refused .illFormedConfig := by
  unfold step; rw [if_neg h]

/-- Reset takes precedence over everything (R130, R141). -/
theorem cycle_reset {x : Input} {s : State} (h : x.rst = true) : cycle x s = .next (s.resetCycle x.now) := by
  simp [cycle, h]

theorem cycle_idle {x : Input} {s : State} (h : x.rst = false) (hs : s.st = .idle) :
    cycle x s = idle x s := by simp [cycle, h, hs]
theorem cycle_done {x : Input} {s : State} (h : x.rst = false) (hs : s.st = .done) :
    cycle x s = .next s.finish := by simp [cycle, h, hs]
theorem cycle_moStep {x : Input} {s : State} (h : x.rst = false) (hs : s.st = .moStep) :
    cycle x s = moStep s := by simp [cycle, h, hs]
theorem cycle_mmPass {x : Input} {s : State} (h : x.rst = false) (hs : s.st = .mmPass) :
    cycle x s = mmPass s := by simp [cycle, h, hs]
theorem cycle_mmCheck {x : Input} {s : State} (h : x.rst = false) (hs : s.st = .mmCheck) :
    cycle x s = mmCheck s := by simp [cycle, h, hs]
theorem cycle_gate {x : Input} {s : State} (h : x.rst = false) (hs : s.st = .gate) :
    cycle x s = gate x.now s := by simp [cycle, h, hs]
theorem cycle_latchLo {x : Input} {s : State} (h : x.rst = false) (hs : s.st = .latchLo) :
    cycle x s = latchLo s := by simp [cycle, h, hs]
theorem cycle_load {x : Input} {s : State} (h : x.rst = false) (hs : s.st = .load) :
    cycle x s = load s := by simp [cycle, h, hs]
theorem cycle_clkLo {x : Input} {s : State} (h : x.rst = false) (hs : s.st = .clkLo) :
    cycle x s = clkLo s := by simp [cycle, h, hs]
theorem cycle_dataSet {x : Input} {s : State} (h : x.rst = false) (hs : s.st = .dataSet) :
    cycle x s = dataSet s := by simp [cycle, h, hs]
theorem cycle_clkHi {x : Input} {s : State} (h : x.rst = false) (hs : s.st = .clkHi) :
    cycle x s = clkHi s := by simp [cycle, h, hs]
theorem cycle_latchHi {x : Input} {s : State} (h : x.rst = false) (hs : s.st = .latchHi) :
    cycle x s = latchHi s := by simp [cycle, h, hs]
theorem cycle_latchEnd {x : Input} {s : State} (h : x.rst = false) (hs : s.st = .latchEnd) :
    cycle x s = latchEnd s := by simp [cycle, h, hs]

/-! ### Runs -/

@[simp] theorem stepsTo_zero (s : State) : stepsTo 0 s = .next s := rfl

theorem stepsTo_succ {s t : State} (k : Nat) (h : step s = .next t) : stepsTo (k + 1) s = stepsTo k t := by
  simp [stepsTo, Host.Core.run, Sys2Proof.core, h]

/-- A run of one more step begins with a step that answers. -/
theorem stepsTo_succ_next {s u : State} {k : Nat} (h : stepsTo (k + 1) s = .next u) :
    ∃ t, step s = .next t ∧ stepsTo k t = .next u := by
  cases hs : step s with
  | next t => exact ⟨t, rfl, by rwa [stepsTo_succ k hs] at h⟩
  | fault r => simp [stepsTo, Host.Core.run, Sys2Proof.core, hs] at h
  | refused r => simp [stepsTo, Host.Core.run, Sys2Proof.core, hs] at h

theorem stepsTo_one {s t : State} (h : step s = .next t) : stepsTo 1 s = .next t := stepsTo_succ 0 h

/-- Runs compose. -/
theorem stepsTo_add {s t : State} {j : Nat} (k : Nat) (h : stepsTo j s = .next t) :
    stepsTo (j + k) s = stepsTo k t := by
  induction j generalizing s with
  | zero => simp at h; subst h; simp
  | succ j ih =>
    obtain ⟨u, hu, h'⟩ := stepsTo_succ_next h
    rw [Nat.succ_add, stepsTo_succ _ hu, ih h']

/-- A run splits at any point. -/
theorem stepsTo_split {s u : State} {j k : Nat} (h : stepsTo (j + k) s = .next u) :
    ∃ t, stepsTo j s = .next t ∧ stepsTo k t = .next u := by
  induction j generalizing s with
  | zero => exact ⟨s, rfl, by simpa using h⟩
  | succ j ih =>
    rw [Nat.succ_add] at h
    obtain ⟨v, hv, h'⟩ := stepsTo_succ_next h
    obtain ⟨t, ht, h''⟩ := ih h'
    exact ⟨t, by rw [stepsTo_succ _ hv, ht], h''⟩

/-- What every step keeps, every run keeps. -/
theorem stepsTo_invariant {P : State → Prop} (hstep : ∀ s t, P s → step s = .next t → P t)
    {k : Nat} {s t : State} (hs : P s) (h : stepsTo k s = .next t) : P t := by
  induction k generalizing s with
  | zero => simp at h; exact h ▸ hs
  | succ k ih =>
    obtain ⟨u, hu, h'⟩ := stepsTo_succ_next h
    exact ih (hstep _ _ hs hu) h'

/-! ### Listed inputs -/

theorem State.Quiet.mono {s : State} {j k : Nat} (h : s.Quiet k) (hjk : j ≤ k) : s.Quiet j :=
  ⟨hjk.trans h.1, fun x hx => h.2 x (List.take_subset_take_left s.inputs hjk hx)⟩

/-- A quiet cycle takes the first listed sample, with no reset. -/
theorem State.Quiet.head {s : State} {k : Nat} (h : s.Quiet (k + 1)) :
    ∃ x rest, s.inputs = x :: rest ∧ x.rst = false ∧ s.nextInput = x ∧
      s.dropInput = { s with inputs := rest } ∧ State.Quiet { s with inputs := rest } k := by
  obtain ⟨h1, h2⟩ := h
  rcases hi : s.inputs with _ | ⟨x, rest⟩
  · simp [hi] at h1
  · refine ⟨x, rest, rfl, h2 x (by simp [hi]), by simp [State.nextInput, hi], by simp [State.dropInput, hi], ?_, ?_⟩
    · simpa [hi] using h1
    · intro y hy
      exact h2 y (by simp [hi]; exact .inr hy)

/-- Quietness only depends on the listed samples. -/
theorem State.Quiet.congr {s t : State} {k : Nat} (h : s.Quiet k) (hi : t.inputs = s.inputs) : t.Quiet k := by
  unfold State.Quiet; rw [hi]; exact h

/-- A quiet step is a cycle with the first listed sample. -/
theorem step_quiet {s : State} {k : Nat} (hw : s.cfg.WellFormed) (h : s.Quiet (k + 1)) :
    ∃ x rest, s.inputs = x :: rest ∧ x.rst = false ∧ step s = cycle x { s with inputs := rest } ∧
      State.Quiet { s with inputs := rest } k := by
  obtain ⟨x, rest, hi, hr, hn, hd, hq⟩ := h.head
  exact ⟨x, rest, hi, hr, by rw [step_eq_cycle hw, hn, hd], hq⟩

/-- After the first `j` of `j + k` quiet cycles the other `k` are quiet. -/
theorem State.Quiet.drop {s t : State} {j k : Nat} (h : s.Quiet (j + k)) (hi : t.inputs = s.inputs.drop j) :
    t.Quiet k := by
  refine ⟨by rw [hi, List.length_drop]; have := h.1; omega, fun x hx => ?_⟩
  rw [hi] at hx
  exact h.2 x (by rw [List.take_add]; exact List.mem_append_right _ hx)

/-! ### The pins -/

theorem levelAfter_append (p : Pin) (es : List PinEvent) (e : PinEvent) :
    levelAfter p (es ++ [e]) = if e.pin = p then e.level else levelAfter p es := by
  simp [levelAfter]

end Sys2Proof.Machine
end

