-- ==== Sys2Proof/Laws/Meanings.lean ====
section
/-! SUPPORT. Inversion, one lemma per meaning and per state rule: if it answers a next state, which it is. -/

namespace Sys2Proof.Machine

/-! ### The commands -/

theorem execMoveOne_next {idx : Idx} {delta : Counter} {s t : State} (h : execMoveOne idx delta s = .next t) :
    (idx.toNat < s.n.toNat ∧ t = { s with moIdx := idx, moRem := delta, st := .moStep }) ∨
    (s.n.toNat ≤ idx.toNat ∧ t = s.respond .ok 0#32) := by
  unfold execMoveOne at h
  split at h <;> cases h
  · exact .inl ⟨‹_›, rfl⟩
  · exact .inr ⟨Nat.not_lt.mp ‹_›, rfl⟩

theorem execWriteDelta_next {idx : Idx} {delta : Counter} {s t : State}
    (h : execWriteDelta idx delta s = .next t) :
    (idx.toNat < s.n.toNat ∧ idx.toNat < s.dbuf.length ∧ t = (s.setDbuf idx delta).respond .ok 0#32) ∨
    (s.n.toNat ≤ idx.toNat ∧ t = s.raise .errRange) := by
  unfold execWriteDelta at h
  split at h
  · obtain ⟨v, hv, h⟩ := withEntry_next h
    cases h
    exact .inl ⟨‹_›, (List.getElem?_eq_some_iff.mp hv).1, rfl⟩
  · cases h
    exact .inr ⟨Nat.not_lt.mp ‹_›, rfl⟩

theorem execMoveMany_next {len : Idx} {s t : State} (h : execMoveMany len s = .next t) :
    (len.toNat ≤ s.n.toNat ∧ len.toNat ≤ s.dbuf.length ∧ len.toNat ≤ s.rem.length ∧
      t = { s with
        rem := copyDeltas s.dbuf s.rem len.toNat, mode := .many, m := len
        i := 0#16, zc := 0#16, maxch := 0#16, st := .mmPass }) ∨
    (s.n.toNat < len.toNat ∧ t = s.raise .errRange) := by
  unfold execMoveMany at h
  split at h
  · cases h; exact .inr ⟨‹_›, rfl⟩
  · split at h
    · cases h
    · cases h; exact .inl ⟨by omega, by omega, by omega, rfl⟩

theorem execHome_next {s t : State} (h : execHome s = .next t) :
    t = { s with mode := .home, m := s.n, i := 0#16, zc := 0#16, maxch := 0#16, st := .mmPass } := by
  cases h; rfl

theorem execSetSpeedRpm_next {rpm : Word} {s t : State} (h : execSetSpeedRpm rpm s = .next t) :
    (rpm ≠ 0#32 ∧ t = { s with stepDelay := delayRpm s.cfg rpm }.respond .ok 0#32) ∨
    (rpm = 0#32 ∧ t = s.raise .errSpeed) := by
  unfold execSetSpeedRpm at h
  split at h <;> cases h
  · exact .inr ⟨‹_›, rfl⟩
  · exact .inl ⟨‹_›, rfl⟩

theorem execSetSpeedRad_next {rad : Word} {s t : State} (h : execSetSpeedRad rad s = .next t) :
    (rad ≠ 0#32 ∧ t = { s with stepDelay := delayRad s.cfg rad }.respond .ok 0#32) ∨
    (rad = 0#32 ∧ t = s.raise .errSpeed) := by
  unfold execSetSpeedRad at h
  split at h <;> cases h
  · exact .inr ⟨‹_›, rfl⟩
  · exact .inl ⟨‹_›, rfl⟩

theorem execResize_next {count : Idx} {s t : State} (h : execResize count s = .next t) :
    (1 ≤ count.toNat ∧ count.toNat ≤ s.cfg.nmax ∧
      t = { s with
        n := count, pos := List.replicate s.cfg.nmax 0#32
        dbuf := List.replicate s.cfg.nmax 0#32 }.respond .ok 1#32) ∨
    ((count = 0#16 ∨ s.cfg.nmax < count.toNat) ∧ t = s.respond .errResize 0#32) := by
  unfold execResize at h
  split at h <;> cases h
  · exact .inr ⟨‹_›, rfl⟩
  · rename_i hc
    have : count.toNat ≠ 0 := fun h0 => hc (.inl (BitVec.eq_of_toNat_eq h0))
    exact .inl ⟨by omega, by omega, rfl⟩

theorem execGetMotorCount_next {s t : State} (h : execGetMotorCount s = .next t) :
    t = s.respond .ok (s.n.zeroExtend 32) := by
  cases h; rfl

theorem execReadPos_next {idx : Idx} {s t : State} (h : execReadPos idx s = .next t) :
    (idx.toNat < s.n.toNat ∧ ∃ p, s.pos[idx.toNat]? = some p ∧ t = s.respond .ok p) ∨
    (s.n.toNat ≤ idx.toNat ∧ t = s.raise .errRange) := by
  unfold execReadPos at h
  split at h
  · obtain ⟨v, hv, h⟩ := withEntry_next h
    cases h
    exact .inl ⟨‹_›, v, hv, rfl⟩
  · cases h
    exact .inr ⟨Nat.not_lt.mp ‹_›, rfl⟩

/-- What the acceptance action of a command can be, once for all commands. -/
theorem exec_cases {i : Instr} {s t : State} (h : exec i s = .next t) :
    (∃ idx delta, i = .moveOne idx delta ∧ idx.toNat < s.n.toNat ∧
      t = { s with moIdx := idx, moRem := delta, st := .moStep }) ∨
    (∃ idx delta, i = .moveOne idx delta ∧ s.n.toNat ≤ idx.toNat ∧ t = s.respond .ok 0#32) ∨
    (∃ len, i = .moveMany len ∧ (len.toNat ≤ s.n.toNat ∧ len.toNat ≤ s.dbuf.length ∧
        len.toNat ≤ s.rem.length) ∧
      t = { s with
        rem := copyDeltas s.dbuf s.rem len.toNat, mode := .many, m := len
        i := 0#16, zc := 0#16, maxch := 0#16, st := .mmPass }) ∨
    (∃ len, i = .moveMany len ∧ s.n.toNat < len.toNat ∧ t = s.raise .errRange) ∨
    (i = .home ∧
      t = { s with mode := .home, m := s.n, i := 0#16, zc := 0#16, maxch := 0#16, st := .mmPass }) ∨
    (∃ idx delta, i = .writeDelta idx delta ∧ (idx.toNat < s.n.toNat ∧ idx.toNat < s.dbuf.length) ∧
      t = (s.setDbuf idx delta).respond .ok 0#32) ∨
    (∃ idx delta, i = .writeDelta idx delta ∧ s.n.toNat ≤ idx.toNat ∧ t = s.raise .errRange) ∨
    (∃ r, i = .setSpeedRpm r ∧ r ≠ 0#32 ∧ t = { s with stepDelay := delayRpm s.cfg r }.respond .ok 0#32) ∨
    (∃ r, i = .setSpeedRpm r ∧ r = 0#32 ∧ t = s.raise .errSpeed) ∨
    (∃ r, i = .setSpeedRad r ∧ r ≠ 0#32 ∧ t = { s with stepDelay := delayRad s.cfg r }.respond .ok 0#32) ∨
    (∃ r, i = .setSpeedRad r ∧ r = 0#32 ∧ t = s.raise .errSpeed) ∨
    (∃ c, i = .resize c ∧ (1 ≤ c.toNat ∧ c.toNat ≤ s.cfg.nmax) ∧
      t = { s with
        n := c, pos := List.replicate s.cfg.nmax 0#32
        dbuf := List.replicate s.cfg.nmax 0#32 }.respond .ok 1#32) ∨
    (∃ c, i = .resize c ∧ (c = 0#16 ∨ s.cfg.nmax < c.toNat) ∧ t = s.respond .errResize 0#32) ∨
    (i = .getMotorCount ∧ t = s.respond .ok (s.n.zeroExtend 32)) ∨
    (∃ idx p, i = .readPos idx ∧ (idx.toNat < s.n.toNat ∧ s.pos[idx.toNat]? = some p) ∧ t = s.respond .ok p) ∨
    (∃ idx, i = .readPos idx ∧ s.n.toNat ≤ idx.toNat ∧ t = s.raise .errRange) := by
  cases i with
  | moveOne idx delta => rcases execMoveOne_next h with ⟨h1, h2⟩ | ⟨h1, h2⟩ <;> simp [h1, h2]
  | moveMany len => rcases execMoveMany_next h with ⟨h1, h2, h3, h4⟩ | ⟨h1, h2⟩ <;> simp_all
  | home => have h1 := execHome_next h; simp [h1]
  | writeDelta idx delta => rcases execWriteDelta_next h with ⟨h1, h2, h3⟩ | ⟨h1, h2⟩ <;> simp_all
  | setSpeedRpm r => rcases execSetSpeedRpm_next h with ⟨h1, h2⟩ | ⟨h1, h2⟩ <;> simp [h1, h2]
  | setSpeedRad r => rcases execSetSpeedRad_next h with ⟨h1, h2⟩ | ⟨h1, h2⟩ <;> simp [h1, h2]
  | resize c => rcases execResize_next h with ⟨h1, h2, h3⟩ | ⟨h1, h2⟩ <;> simp [*]
  | getMotorCount => have h1 := execGetMotorCount_next h; simp [h1]
  | readPos idx => rcases execReadPos_next h with ⟨h1, p, h2, h3⟩ | ⟨h1, h2⟩ <;> simp [*]

/-! ### The sequencer's state rules -/

theorem moStep_next {s t : State} (h : moStep s = .next t) :
    (s32 s.moRem = 0 ∧ t = s.respond .ok 0#32) ∨
    (s32 s.moRem ≠ 0 ∧ ∃ p, s.pos[s.moIdx.toNat]? = some p ∧
      t = { s with
        moRem := wrap32 (s32 s.moRem - unitStep s.moRem)
        pos := s.pos.set s.moIdx.toNat (wrap32 (s32 p + unitStep s.moRem))
        a := s.moIdx + 1#16, ret := .moStep, st := .gate }) := by
  unfold moStep at h
  split at h
  · cases h; exact .inl ⟨‹_›, rfl⟩
  · obtain ⟨p, hp, h⟩ := withEntry_next h
    cases h
    exact .inr ⟨‹_›, p, hp, rfl⟩

theorem updateMany_next {k : Idx} {s t : State} (h : updateMany k s = .next t) :
    ∃ r, s.rem[k.toNat]? = some r ∧
      ((s32 r = 0 ∧ t = { s with zc := s.zc + 1#16 }) ∨
       (s32 r ≠ 0 ∧ ∃ p, s.pos[k.toNat]? = some p ∧
        t = { s with
          rem := s.rem.set k.toNat (wrap32 (s32 r - unitStep r))
          pos := s.pos.set k.toNat (wrap32 (s32 p + unitStep r)), maxch := k })) := by
  unfold updateMany at h
  obtain ⟨r, hr, h⟩ := withEntry_next h
  refine ⟨r, hr, ?_⟩
  split at h
  · cases h; exact .inl ⟨‹_›, rfl⟩
  · obtain ⟨p, hp, h⟩ := withEntry_next h
    cases h
    exact .inr ⟨‹_›, p, hp, rfl⟩

theorem updateHome_next {k : Idx} {s t : State} (h : updateHome k s = .next t) :
    ∃ p, s.pos[k.toNat]? = some p ∧
      ((s32 p = 0 ∧ t = { s with zc := s.zc + 1#16 }) ∨
       (s32 p ≠ 0 ∧
        t = { s with pos := s.pos.set k.toNat (wrap32 (s32 p - unitStep p)), maxch := k })) := by
  unfold updateHome at h
  obtain ⟨p, hp, h⟩ := withEntry_next h
  refine ⟨p, hp, ?_⟩
  split at h
  · cases h; exact .inl ⟨‹_›, rfl⟩
  · cases h; exact .inr ⟨‹_›, rfl⟩

theorem mmPass_next {s t : State} (h : mmPass s = .next t) :
    (s.i.toNat < s.m.toNat ∧ s.mode = .many ∧ updateMany s.i { s with i := s.i + 1#16 } = .next t) ∨
    (s.i.toNat < s.m.toNat ∧ s.mode = .home ∧ updateHome s.i { s with i := s.i + 1#16 } = .next t) ∨
    (s.m.toNat ≤ s.i.toNat ∧ t = s.requestFrame (s.maxch + 1#16) .mmCheck) := by
  unfold mmPass at h
  split at h
  · split at h
    · exact .inl ⟨‹_›, ‹_›, h⟩
    · exact .inr (.inl ⟨‹_›, ‹_›, h⟩)
  · cases h; exact .inr (.inr ⟨Nat.not_lt.mp ‹_›, rfl⟩)

theorem mmCheck_next {s t : State} (h : mmCheck s = .next t) :
    (s.zc = s.m ∧ t = s.respond .ok 0#32) ∨ (s.zc ≠ s.m ∧ t = s.startPass) := by
  unfold mmCheck at h
  split at h <;> cases h
  · exact .inl ⟨‹_›, rfl⟩
  · exact .inr ⟨‹_›, rfl⟩

/-! ### The frame's state rules -/

theorem gate_next {now : Time} {s t : State} (h : gate now s = .next t) :
    (s.stepDelay.toNat ≤ (now - s.last).toNat ∧
      t = { s with last := now, st := .latchLo, gateOpens := s.gateOpens ++ [now] }) ∨
    ((now - s.last).toNat < s.stepDelay.toNat ∧ t = s) := by
  unfold gate elapsed at h
  split at h <;> cases h
  · exact .inl ⟨‹_›, rfl⟩
  · exact .inr ⟨Nat.not_le.mp ‹_›, rfl⟩

theorem load_next {s t : State} (h : load s = .next t) :
    ∃ p v, s.pos[s.fi.toNat]? = some p ∧ phase s.cfg p = some v ∧
      t = { s with sr := v, bi := 0#3, st := .clkLo } := by
  unfold load at h
  obtain ⟨p, hp, h⟩ := withEntry_next h
  split at h
  · cases h; exact ⟨p, _, hp, ‹_›, rfl⟩
  · cases h

theorem clkHi_next {s t : State} (h : clkHi s = .next t) :
    (s.bi.toNat + 1 < s.cfg.b ∧ t = { s.drivePin .clk true with bi := s.bi + 1#3, st := .clkLo }) ∨
    (s.cfg.b ≤ s.bi.toNat + 1 ∧ s.fi ≠ 0#16 ∧
      t = { s.drivePin .clk true with fi := s.fi - 1#16, st := .load }) ∨
    (s.cfg.b ≤ s.bi.toNat + 1 ∧ s.fi = 0#16 ∧ t = (s.drivePin .clk true).goto .latchHi) := by
  unfold clkHi at h
  split at h
  · cases h; exact .inl ⟨‹_›, rfl⟩
  · split at h <;> cases h
    · exact .inr (.inl ⟨Nat.not_lt.mp ‹_›, ‹_›, rfl⟩)
    · exact .inr (.inr ⟨Nat.not_lt.mp ‹_›, not_not.mp ‹_›, rfl⟩)

/-! ### The cycle -/

/-- What a cycle is, by the input and the state it meets (R22, R130). -/
theorem cycle_cases {x : Input} {s t : State} (h : cycle x s = .next t) :
    (x.rst = true ∧ t = s.resetCycle x.now) ∨
    (x.rst = false ∧
      ((s.st = .idle ∧ x.cmdValid = false ∧ t = s) ∨
       (s.st = .idle ∧ x.cmdValid = true ∧ ∃ e, decode x.cmdWord = .error e ∧ t = s.raise .errIllegal) ∨
       (s.st = .idle ∧ x.cmdValid = true ∧ ∃ i, decode x.cmdWord = .ok i ∧ exec i s = .next t) ∨
       (s.st = .done ∧ t = s.finish) ∨
       (s.st = .moStep ∧ moStep s = .next t) ∨
       (s.st = .mmPass ∧ mmPass s = .next t) ∨
       (s.st = .mmCheck ∧ mmCheck s = .next t) ∨
       (s.st = .gate ∧ gate x.now s = .next t) ∨
       (s.st = .latchLo ∧ t = { s.drivePin .latch false with
          fi := activeCount s.cfg s.a s.n - 1#16, st := .load }) ∨
       (s.st = .load ∧ load s = .next t) ∨
       (s.st = .clkLo ∧ t = (s.drivePin .clk false).goto .dataSet) ∨
       (s.st = .dataSet ∧ t = (s.drivePin .data (s.sr.getLsbD s.bi.toNat)).goto .clkHi) ∨
       (s.st = .clkHi ∧ clkHi s = .next t) ∨
       (s.st = .latchHi ∧ t = (s.drivePin .latch true).goto .latchEnd) ∨
       (s.st = .latchEnd ∧ t = (s.drivePin .latch false).goto (retState s.ret)))) := by
  unfold cycle at h
  cases hr : x.rst with
  | true => simp [hr] at h; exact .inl ⟨rfl, h.symm⟩
  | false =>
    refine .inr ⟨rfl, ?_⟩
    simp only [hr, Bool.false_eq_true, if_false] at h
    cases hst : s.st <;> simp only [hst] at h
    case idle =>
      unfold idle accept at h
      cases hv : x.cmdValid with
      | false => simp [hv] at h; simp [h]
      | true =>
        rcases hd : decode x.cmdWord with e | i
        · simp [hv, hd] at h; simp [h]
        · simp [hv, hd] at h; simp [h]
    case done => cases h; simp
    case latchLo => cases h; simp
    case clkLo => cases h; simp
    case dataSet => cases h; simp
    case latchHi => cases h; simp
    case latchEnd => cases h; simp
    all_goals simp [h]

/-- A gate that is due opens. -/
theorem gate_opens {now : Time} {s : State} (h : s.stepDelay.toNat ≤ (now - s.last).toNat) :
    gate now s = .next { s with last := now, st := .latchLo, gateOpens := s.gateOpens ++ [now] } := by
  unfold gate elapsed
  exact if_pos h

/-- A gate that is not due waits. -/
theorem gate_waits {now : Time} {s : State} (h : (now - s.last).toNat < s.stepDelay.toNat) :
    gate now s = .next s := by
  unfold gate elapsed
  exact if_neg (Nat.not_le.mpr h)

/-- No cycle takes or lists an input sample: `dropInput` alone does. -/
theorem cycle_inputs {x : Input} {s t : State} (h : cycle x s = .next t) : t.inputs = s.inputs := by
  rcases cycle_cases h with ⟨-, rfl⟩ | ⟨-, h⟩
  · rfl
  rcases h with ⟨-, -, rfl⟩ | ⟨-, -, e, -, rfl⟩ | ⟨-, -, i, -, he⟩ | ⟨-, rfl⟩ | ⟨-, he⟩ | ⟨-, he⟩ | ⟨-, he⟩ |
    ⟨-, he⟩ | ⟨-, rfl⟩ | ⟨-, he⟩ | ⟨-, rfl⟩ | ⟨-, rfl⟩ | ⟨-, he⟩ | ⟨-, rfl⟩ | ⟨-, rfl⟩
  · rfl
  · simp
  · rcases exec_cases he with ⟨_, _, -, -, rfl⟩ | ⟨_, _, -, -, rfl⟩ | ⟨_, -, -, rfl⟩ | ⟨_, -, -, rfl⟩ |
      ⟨-, rfl⟩ | ⟨_, _, -, -, rfl⟩ | ⟨_, _, -, -, rfl⟩ | ⟨_, -, -, rfl⟩ | ⟨_, -, -, rfl⟩ | ⟨_, -, -, rfl⟩ |
      ⟨_, -, -, rfl⟩ | ⟨_, -, -, rfl⟩ | ⟨_, -, -, rfl⟩ | ⟨-, rfl⟩ | ⟨_, _, -, -, rfl⟩ | ⟨_, -, -, rfl⟩ <;> simp
  · simp
  · rcases moStep_next he with ⟨-, rfl⟩ | ⟨-, p, -, rfl⟩ <;> simp
  · rcases mmPass_next he with ⟨-, -, he⟩ | ⟨-, -, he⟩ | ⟨-, rfl⟩
    · obtain ⟨r, -, ⟨-, rfl⟩ | ⟨-, p, -, rfl⟩⟩ := updateMany_next he <;> simp
    · obtain ⟨p, -, ⟨-, rfl⟩ | ⟨-, rfl⟩⟩ := updateHome_next he <;> simp
    · simp
  · rcases mmCheck_next he with ⟨-, rfl⟩ | ⟨-, rfl⟩ <;> simp
  · rcases gate_next he with ⟨-, rfl⟩ | ⟨-, rfl⟩ <;> simp
  · simp
  · obtain ⟨p, v, -, -, rfl⟩ := load_next he
    simp
  · simp
  · simp
  · rcases clkHi_next he with ⟨-, rfl⟩ | ⟨-, -, rfl⟩ | ⟨-, -, rfl⟩ <;> simp
  · simp
  · simp

/-- A quiet run uses up one listed sample per step. -/
theorem State.Quiet.step {s t : State} {k : Nat} (h : s.Quiet (k + 1)) (ht : step s = .next t) : t.Quiet k := by
  obtain ⟨x, rest, -, -, -, hd, hq⟩ := h.head
  obtain ⟨-, hc⟩ := step_next ht
  exact hq.congr (by rw [cycle_inputs hc, hd])

end Sys2Proof.Machine
end

