-- ==== Sys2Proof/Laws/PerInstr.lean ====
section
/-! SUPPORT. One lemma per command: the fixed fields of its word (R48, R49, R58). -/

namespace Sys2Proof.Laws.FixedFields

/-- The word of a command holds its opcode in OP and 0 in RSV. -/
def Statement (i : Instr) : Prop := opField (encode i) = opcodeOf i ∧ rsvField (encode i) = 0#8

theorem moveOne (idx : Idx) (delta : Counter) : Statement (.moveOne idx delta) :=
  ⟨opField_packCmd .., rsvField_packCmd ..⟩

theorem moveMany (len : Idx) : Statement (.moveMany len) := ⟨opField_packCmd .., rsvField_packCmd ..⟩

theorem home : Statement .home := ⟨opField_packCmd .., rsvField_packCmd ..⟩

theorem writeDelta (idx : Idx) (delta : Counter) : Statement (.writeDelta idx delta) :=
  ⟨opField_packCmd .., rsvField_packCmd ..⟩

theorem setSpeedRpm (rpm : Word) : Statement (.setSpeedRpm rpm) := ⟨opField_packCmd .., rsvField_packCmd ..⟩

theorem setSpeedRad (rad : Word) : Statement (.setSpeedRad rad) := ⟨opField_packCmd .., rsvField_packCmd ..⟩

theorem resize (count : Idx) : Statement (.resize count) := ⟨opField_packCmd .., rsvField_packCmd ..⟩

theorem getMotorCount : Statement .getMotorCount := ⟨opField_packCmd .., rsvField_packCmd ..⟩

theorem readPos (idx : Idx) : Statement (.readPos idx) := ⟨opField_packCmd .., rsvField_packCmd ..⟩

end Sys2Proof.Laws.FixedFields
end

