-- ==== Sys2Proof/Tests/Slice0.lean ====
section
/-! SUPPORT. Tests with expected values from 95_test_vectors.md and the rules, and one witness for the hypotheses
of every statement that has some. -/

namespace Sys2Proof.Tests

open Sys2Proof.Machine

/-! ### Helpers -/

/-- The state a step answers. -/
def nextOf (s : State) : State :=
  match step s with
  | .next t => t
  | _ => s

/-- The state `k` steps answer. -/
def runState : Nat → State → State
  | 0, s => s
  | k + 1, s => runState k (nextOf s)

/-- A step answers a next state. -/
def steps (s : State) : Bool :=
  match step s with
  | .next _ => true
  | _ => false

/-- `k` steps answer, and the last state is the first in DONE. -/
def firstDone : Nat → State → Bool
  | 0, s => decide (s.st = .done)
  | k + 1, s => decide (s.st ≠ .done) && steps s && firstDone k (nextOf s)

/-- What `exec` answers, as a test reads it. -/
def execOf (i : Instr) (s : State) : State :=
  match exec i s with
  | .next t => t
  | _ => s

/-- A check of every element of a list, in the form that `decide` evaluates fast. -/
theorem forall_of_all {α : Type} {P : α → Prop} [DecidablePred P] {xs : List α}
    (h : (xs.all fun x => decide (P x)) = true) : ∀ x ∈ xs, P x := by simpa using h

theorem step_of_steps {s : State} (h : steps s = true) : step s = .next (nextOf s) := by
  unfold steps at h
  unfold nextOf
  split at h
  · rename_i t ht; simp [ht]
  · simp at h

theorem run_one {s : State} {k : Nat} (h : steps s = true) : stepsTo (k + 1) s = stepsTo k (nextOf s) := by
  simp [stepsTo, Host.Core.run, Sys2Proof.core, step_of_steps h]

theorem firstDone_run {k : Nat} {s : State} (h : firstDone k s = true) :
    stepsTo k s = .next (runState k s) ∧ (runState k s).st = .done ∧
      ∀ j < k, ∀ u, stepsTo j s = .next u → u.st ≠ .done := by
  induction k generalizing s with
  | zero => exact ⟨rfl, of_decide_eq_true h, fun j hj => absurd hj (Nat.not_lt_zero j)⟩
  | succ k ih =>
    simp only [firstDone, Bool.and_eq_true, decide_eq_true_eq] at h
    obtain ⟨h1, h2, h3⟩ := ih h.2
    refine ⟨by rw [run_one h.1.2, h1]; rfl, h2, fun j hj u hu => ?_⟩
    rcases j with _ | j
    · cases hu; exact h.1.1
    · rw [run_one h.1.2] at hu
      exact h3 j (by omega) u hu

theorem completes_of {k : Nat} {s : State} (hs : steps s = true) (h : firstDone k (nextOf s) = true) :
    CompletesAt (k + 1) s (runState (k + 1) s) := by
  obtain ⟨h1, h2, h3⟩ := firstDone_run h
  refine ⟨by rw [run_one hs, h1]; rfl, h2, Nat.succ_pos k, fun j hj hjk u hu => ?_⟩
  obtain ⟨j, rfl⟩ : ∃ i, j = i + 1 := ⟨j - 1, by omega⟩
  rw [run_one hs] at hu
  exact h3 j (by omega) u hu

/-- A sample with no reset that offers nothing. -/
def tick (now : Time) : Input := ⟨false, now, false, 0#64⟩

/-- A sample that offers a word. -/
def offer (now : Time) (w : Cmd) : Input := ⟨false, now, true, w⟩

/-- A sample that asserts reset. -/
def resets (now : Time) : Input := ⟨true, now, false, 0#64⟩

/-- `k` samples with rising time that offer nothing. -/
def ticks (k : Nat) : List Input := (List.range k).map fun j => tick (BitVec.ofNat 64 j)

/-- Configuration T3 of 95_test_vectors.md section 2. -/
def t3 : Config := ⟨1, 1, 2000000, 1, 2, [0x00#8, 0x01#8], false⟩

/-- Configuration of PH12 to PH14 of 95_test_vectors.md section 3; the other bounds as in T1. -/
def ph : Config := { Config.t1 with cycle := 3, phaseTable := [0xA0#8, 0x0B#8, 0xFF#8] }

/-- T1 with POS = [3, 0, −2], in state `st`, with the samples `xs` (C6). -/
def s1 (st : Fsm) (xs : List Input) : State :=
  { State.reset with
    st := st, inputs := xs, pos := [3#32, 0#32, 0xFFFFFFFE#32, 0#32, 0#32, 0#32, 0#32, 0#32] }

/-- T3 after reset, with the word `w` offered and then `k` quiet samples. -/
def s3 (w : Cmd) (k : Nat) : State := { State.resetOf t3 0#64 with inputs := offer 0#64 w :: ticks k }

/-! ### Ill-formed terms are refused (R1, R2, R58) -/

theorem test_t1_wellFormed : Config.t1.WellFormed ∧ t3.WellFormed ∧ ph.WellFormed := by decide
theorem test_nmax_zero : ¬ Config.WellFormed { Config.t1 with nmax := 0, nInit := 0 } := by decide
theorem test_nmax_large : ¬ Config.WellFormed { Config.t1 with nmax := 65536 } := by decide
theorem test_nInit_zero : ¬ Config.WellFormed { Config.t1 with nInit := 0 } := by decide
theorem test_nInit_above_nmax : ¬ Config.WellFormed { Config.t1 with nInit := 9 } := by decide
theorem test_spr_zero : ¬ Config.WellFormed { Config.t1 with spr := 0 } := by decide
theorem test_spr_large : ¬ Config.WellFormed { Config.t1 with spr := 4294967296 } := by decide
theorem test_b_zero : ¬ Config.WellFormed { Config.t1 with b := 0 } := by decide
theorem test_b_large : ¬ Config.WellFormed { Config.t1 with b := 9 } := by decide
theorem test_cycle_zero : ¬ Config.WellFormed { Config.t1 with cycle := 0, phaseTable := [] } := by decide
theorem test_cycle_large :
    ¬ Config.WellFormed { Config.t1 with cycle := 257, phaseTable := List.replicate 257 0#8 } := by decide
theorem test_table_short : ¬ Config.WellFormed { Config.t1 with phaseTable := [0x01#8] } := by decide

theorem test_line_moveOne_idx : (AsmLine.moveOne 65536 0).wellFormed = false := by decide
theorem test_line_moveOne_delta : (AsmLine.moveOne 0 2147483648).wellFormed = false := by decide
theorem test_line_moveMany : (AsmLine.moveMany (-1)).wellFormed = false := by decide
theorem test_line_writeDelta_idx : (AsmLine.writeDelta (-1) 0).wellFormed = false := by decide
theorem test_line_writeDelta_delta : (AsmLine.writeDelta 0 (-2147483649)).wellFormed = false := by decide
theorem test_line_setSpeedRpm : (AsmLine.setSpeedRpm (-1)).wellFormed = false := by decide
theorem test_line_setSpeedRad : (AsmLine.setSpeedRad 4294967296).wellFormed = false := by decide
theorem test_line_resize : (AsmLine.resize 65536).wellFormed = false := by decide
theorem test_line_readPos : (AsmLine.readPos 65536).wellFormed = false := by decide
theorem test_line_moveManyV : (AsmLine.moveManyV [0, 2147483648]).wellFormed = false := by decide

/-! ### Encodings: words of 95_test_vectors.md section 9 -/

theorem test_word_moveOne : decode 0x01000002FFFFFFFE#64 = .ok (.moveOne 2#16 0xFFFFFFFE#32) ∧
    encode (.moveOne 2#16 0xFFFFFFFE#32) = 0x01000002FFFFFFFE#64 := by decide
theorem test_word_moveMany : decode 0x0200000300000000#64 = .ok (.moveMany 3#16) ∧
    encode (.moveMany 3#16) = 0x0200000300000000#64 := by decide
theorem test_word_home : decode 0x0300000000000000#64 = .ok .home ∧
    encode .home = 0x0300000000000000#64 := by decide
theorem test_word_writeDelta : decode 0x04000001FFFFFFFF#64 = .ok (.writeDelta 1#16 0xFFFFFFFF#32) ∧
    encode (.writeDelta 1#16 0xFFFFFFFF#32) = 0x04000001FFFFFFFF#64 := by decide
theorem test_word_setSpeedRpm : decode 0x0500000000000258#64 = .ok (.setSpeedRpm 600#32) ∧
    encode (.setSpeedRpm 600#32) = 0x0500000000000258#64 := by decide
theorem test_word_setSpeedRad : decode 0x0600000000000003#64 = .ok (.setSpeedRad 3#32) ∧
    encode (.setSpeedRad 3#32) = 0x0600000000000003#64 := by decide
theorem test_word_resize : decode 0x0700000900000000#64 = .ok (.resize 9#16) ∧
    encode (.resize 9#16) = 0x0700000900000000#64 := by decide
theorem test_word_getMotorCount : decode 0x0800000000000000#64 = .ok .getMotorCount ∧
    encode .getMotorCount = 0x0800000000000000#64 := by decide
theorem test_word_readPos : decode 0x0900000100000000#64 = .ok (.readPos 1#16) ∧
    encode (.readPos 1#16) = 0x0900000100000000#64 := by decide
theorem test_word_junk_in_unused_fields : decode 0x08001234DEADBEEF#64 = .ok .getMotorCount := by decide
theorem test_word_op_zero : decode 0x0000000000000000#64 = .error .unknownOpcode := by decide
theorem test_word_op_ten : decode 0x0A00000000000000#64 = .error .unknownOpcode := by decide
theorem test_word_op_ff : decode 0xFF00000000000000#64 = .error .unknownOpcode := by decide
theorem test_word_rsv : decode 0x0101000000000001#64 = .error .reservedNotZero := by decide
theorem test_table_word : decodeTableWord 64 0x0900000100000000 = some (.readPos 1#16) := by decide
theorem test_text_moveOne : assembleText "MOVE_ONE 2, -2" = some [0x01000002FFFFFFFE#64] := by decide
theorem test_text_comment :
    assembleText "SET_SPEED_RPM 0x3C ; rpm" = some [0x050000000000003C#64] := by decide
/-- The first four lines of program P1 (95_test_vectors.md section 11). -/
theorem test_text_moveManyV : assembleText "MOVE_MANY_V 2, -1, 0" =
    some [0x0400000000000002#64, 0x04000001FFFFFFFF#64, 0x0400000200000000#64, 0x0200000300000000#64] := by
  decide
theorem test_text_refused : assembleText "RESIZE 65536" = none ∧ assembleText "HOME 1" = none := by decide

/-! ### The commands, one step each -/

/-- M3: an index out of range is silent, with status OK and data 0. -/
theorem test_moveOne_out_of_range : execOf (.moveOne 3#16 5#32) (s1 .idle []) =
    { s1 .idle [] with respStatus := 0#4, respData := 0#32, st := .done } := by decide
/-- CT1, cycle c1: MO_IDX and MO_REM are written. -/
theorem test_moveOne_accepted :
    let t := nextOf (s3 0x0100000000000001#64 0)
    t.st = .moStep ∧ t.moIdx = 0#16 ∧ t.moRem = 1#32 := by decide
/-- M8: L above N. -/
theorem test_moveMany_range : execOf (.moveMany 4#16) (s1 .idle []) =
    { s1 .idle [] with respStatus := 4#4, respData := 0#32, st := .done } := by decide
/-- M5: only REM[i] for i < L is written (R103). -/
theorem test_moveMany_copies :
    (execOf (.moveMany 2#16) { s1 .idle [] with
      dbuf := [0#32, 3#32, 9#32, 9#32, 9#32, 9#32, 9#32, 9#32] }).rem =
      [0#32, 3#32, 0#32, 0#32, 0#32, 0#32, 0#32, 0#32] := by decide
/-- R104: a pass over all N motors. -/
theorem test_home :
    let t := execOf .home { s1 .idle [] with i := 7#16, zc := 7#16, maxch := 7#16 }
    t.mode = .home ∧ t.m = 3#16 ∧ t.i = 0#16 ∧ t.zc = 0#16 ∧ t.maxch = 0#16 ∧ t.st = .mmPass := by decide
/-- M12. -/
theorem test_writeDelta :
    let t := execOf (.writeDelta 1#16 0xFFFFFFFF#32) (s1 .idle [])
    t.dbuf.take 3 = [0#32, 0xFFFFFFFF#32, 0#32] ∧ t.respStatus = 0#4 ∧ t.pos = (s1 .idle []).pos := by decide
/-- M13. -/
theorem test_writeDelta_range : execOf (.writeDelta 3#16 7#32) (s1 .idle []) =
    { s1 .idle [] with respStatus := 4#4, respData := 0#32, st := .done } := by decide
/-- SP2 and SP4. -/
theorem test_setSpeedRpm : (execOf (.setSpeedRpm 7#32) State.reset).stepDelay = 42857#32 ∧
    (execOf (.setSpeedRpm 300001#32) State.reset).stepDelay = 0#32 := by decide
/-- SP6. -/
theorem test_setSpeedRpm_zero : execOf (.setSpeedRpm 0#32) State.reset =
    { State.reset with respStatus := 2#4, respData := 0#32, st := .done } := by decide
/-- SP8 and SP10. -/
theorem test_setSpeedRad : (execOf (.setSpeedRad 3#32) State.reset).stepDelay = 10471#32 ∧
    (execOf (.setSpeedRad 11#32) (State.resetOf { Config.t1 with spr := 7 } 0#64)).stepDelay = 81599#32 := by
  decide
/-- E6: OP is legal, so the speed check answers. -/
theorem test_setSpeedRad_zero :
    (nextOf (State.reset.withFetchWord 64 0x0600000000000000)).respStatus = 2#4 := by decide
/-- C8: RESIZE to the same count zeroes the counters too; the data is 1. -/
theorem test_resize_same_count :
    let t := execOf (.resize 3#16) (s1 .idle [])
    t.n = 3#16 ∧ t.pos = List.replicate 8 0#32 ∧ t.respStatus = 0#4 ∧ t.respData = 1#32 := by decide
/-- C2 and C3. -/
theorem test_resize_refused : (execOf (.resize 0#16) (s1 .idle [])).respStatus = 3#4 ∧
    execOf (.resize 9#16) (s1 .idle []) =
      { s1 .idle [] with respStatus := 3#4, respData := 0#32, st := .done } := by decide
/-- E5: junk in unused fields; the data is N. -/
theorem test_getMotorCount :
    (nextOf (State.reset.withFetchWord 64 0x08001234DEADBEEF)).respData = 3#32 := by decide
/-- C6. -/
theorem test_readPos : (execOf (.readPos 2#16) (s1 .idle [])).respData = 0xFFFFFFFE#32 := by decide
/-- C7. -/
theorem test_readPos_range : execOf (.readPos 3#16) (s1 .idle []) =
    { s1 .idle [] with respStatus := 4#4, respData := 0#32, st := .done } := by decide

/-! ### The state rules, one step each -/

/-- M15: the step at 2^31−1 wraps. -/
theorem test_moStep_wraps :
    let t := nextOf { s1 .moStep [tick 0#64] with
      pos := 0x7FFFFFFF#32 :: List.replicate 7 0#32, moIdx := 0#16, moRem := 1#32 }
    t.pos[0]? = some 0x80000000#32 ∧ t.moRem = 0#32 ∧ t.a = 1#16 ∧ t.ret = .moStep ∧ t.st = .gate := by decide
/-- M16: homing from −2^31 steps up, with no wrap. -/
theorem test_home_from_lowest :
    let t := nextOf { s1 .mmPass [tick 0#64] with
      pos := 0x80000000#32 :: List.replicate 7 0#32, mode := .home, m := 3#16 }
    t.pos[0]? = some 0x80000001#32 ∧ t.maxch = 0#16 ∧ t.i = 1#16 ∧ t.zc = 0#16 := by decide
/-- P1, first pass of MOVE_MANY over motor 1 with remaining −1. -/
theorem test_pass_many :
    let t := nextOf { s1 .mmPass [tick 0#64] with
      mode := .many, m := 3#16, i := 1#16, rem := 2#32 :: 0xFFFFFFFF#32 :: List.replicate 6 0#32 }
    t.pos[1]? = some 0xFFFFFFFF#32 ∧ t.rem[1]? = some 0#32 ∧ t.maxch = 1#16 ∧ t.i = 2#16 := by decide
/-- G1: one microsecond early. -/
theorem test_gate_waits :
    (nextOf { s1 .gate [tick 5999#64] with last := 1000#64 }).st = .gate := by decide
/-- G2: exactly STEP_DELAY. -/
theorem test_gate_opens :
    let t := nextOf { s1 .gate [tick 6000#64] with last := 1000#64 }
    t.st = .latchLo ∧ t.last = 6000#64 ∧ t.gateOpens = [6000#64] := by decide
/-- G3: across the wrap of the time input. -/
theorem test_gate_wraps :
    (nextOf { s1 .gate [tick 4900#64] with last := 0xFFFFFFFFFFFFFF9C#64 }).last = 4900#64 := by decide
/-- G6: time went backwards. -/
theorem test_gate_backwards :
    (nextOf { s1 .gate [tick 9000#64] with last := 10000#64 }).st = .latchLo := by decide
/-- FR3: the active-count rule. -/
theorem test_activeCount : activeCount Config.t1 0#16 3#16 = 3#16 ∧ activeCount Config.t1 1#16 3#16 = 1#16 ∧
    activeCount Config.t1 3#16 3#16 = 3#16 ∧ activeCount Config.t1 4#16 3#16 = 3#16 := by decide
/-- PH1, PH4, PH6, PH7, PH8. -/
theorem test_phase : phase Config.t1 0#32 = some 0x01#8 ∧ phase Config.t1 (wrap32 (-1)) = some 0x08#8 ∧
    phase Config.t1 (wrap32 (-5)) = some 0x08#8 ∧ phase Config.t1 0x7FFFFFFF#32 = some 0x08#8 ∧
    phase Config.t1 0x80000000#32 = some 0x01#8 := by decide
/-- PH12, PH13, PH14. -/
theorem test_phase_three : phase ph (wrap32 (-1)) = some 0xFF#8 ∧ phase ph 0x7FFFFFFF#32 = some 0x0B#8 ∧
    phase ph 0x80000000#32 = some 0x0B#8 := by decide
/-- S1: the data bits of 0x0B, least significant first. -/
theorem test_serialize : ((serializePins 0x0B#8 4).filter fun e => e.pin == .data).map PinEvent.level =
    [true, true, false, true] ∧ (serializePins 0x0B#8 4).length = 12 := by decide
/-- FR1: data bits 0, 0, 0, 1, 0, 1, 0, 0 in 27 events. -/
theorem test_frame :
    let es := framePins Config.t1 3#16 (1#32 :: 0xFFFFFFFF#32 :: List.replicate 6 0#32) 2#16
    ((es.filter fun e => e.pin == .data).map PinEvent.level =
      [false, false, false, true, false, true, false, false]) ∧ es.length = 27 := by decide
/-- CT1: twelve cycles to DONE inclusive, one frame with data bit 1. -/
theorem test_ct1 :
    let t := runState 11 (s3 0x0100000000000001#64 10)
    t.st = .done ∧ t.pos = [1#32] ∧ t.pinTrace =
      [⟨.latch, false⟩, ⟨.clk, false⟩, ⟨.data, true⟩, ⟨.clk, true⟩, ⟨.latch, true⟩, ⟨.latch, false⟩] := by decide
/-- SP1 and SP12: STEP_DELAY after reset. -/
theorem test_reset_delay : State.reset.stepDelay = 5000#32 ∧
    (State.resetOf { Config.t1 with spr := 7 } 0#64).stepDelay = 142857#32 := by decide

/-! ### Witnesses: the hypotheses of each statement can be met, at the boundaries of its clauses -/

theorem s1_inv : (s1 .idle []).Inv := ⟨by decide, by decide, by decide, by decide⟩
theorem s1_inv_idle (xs : List Input) : (s1 .idle xs).Inv := s1_inv
theorem s3_inv_quiet : (s3 0#64 0).Inv := ⟨by decide, by decide, by decide, by decide⟩
theorem s3_inv (w : Cmd) (k : Nat) : (s3 w k).Inv := s3_inv_quiet

/-- The first and the last legal opcode. -/
theorem witness_LegalWordsAreNineOpcodes :
    (rsvField 0x01000000FFFFFFFF#64 = 0#8 ∧ (opField 0x01000000FFFFFFFF#64).toNat = 1) ∧
    (rsvField 0x0900FFFF00000000#64 = 0#8 ∧ (opField 0x0900FFFF00000000#64).toNat = 9) := by decide

/-- E5 beside the plain word, and two MOVE_ONEs that must agree. -/
theorem witness_UnusedFieldsIgnored :
    let w := 0x0800000000000000#64
    let w' := 0x08001234DEADBEEF#64
    (opField w = opField w' ∧ rsvField w = rsvField w') ∧
    (opField w ∈ [0x01#8, 0x02#8, 0x04#8, 0x07#8, 0x09#8] → f16Field w = f16Field w') ∧
    (opField w ∈ [0x01#8, 0x04#8, 0x05#8, 0x06#8] → f32Field w = f32Field w') := by decide

/-- Clause by clause, each range of R58 at both its ends and one beyond: idx and delta, F16, the unsigned F32; and
lines that assemble and a line that is refused. -/
theorem witness_AssembledLinesDecode :
    (let inRange := fun idx delta : Int =>
        0 ≤ idx ∧ idx ≤ 65535 ∧ -2147483648 ≤ delta ∧ delta ≤ 2147483647
      let out := fun idx delta : Int =>
        idx < 0 ∨ 65535 < idx ∨ delta < -2147483648 ∨ 2147483647 < delta
      inRange 0 (-2147483648) ∧ inRange 65535 2147483647 ∧
        out (-1) 0 ∧ out 65536 0 ∧ out 0 (-2147483649) ∧ out 0 2147483648) ∧
    (let inRange := fun x : Int => 0 ≤ x ∧ x ≤ 65535
      let out := fun x : Int => x < 0 ∨ 65535 < x
      inRange 0 ∧ inRange 65535 ∧ out (-1) ∧ out 65536) ∧
    (let inRange := fun x : Int => 0 ≤ x ∧ x ≤ 4294967295
      let out := fun x : Int => x < 0 ∨ 4294967295 < x
      inRange 0 ∧ inRange 4294967295 ∧ out (-1) ∧ out 4294967296) ∧
    ((AsmLine.moveOne 65535 (-2147483648)).wellFormed = true ∧ (AsmLine.moveManyV []).wellFormed = true ∧
      (AsmLine.moveOne 65536 0).wellFormed = false) := by decide

/-- No delta, both extreme deltas, 65535 deltas; a delta one beyond each end; one delta too many. -/
theorem witness_MoveManyVExpandsInOrder :
    let inRange := fun ds : List Int => ∀ d ∈ ds, -2147483648 ≤ d ∧ d ≤ 2147483647
    let outside := fun ds : List Int => ∃ d ∈ ds, d < -2147483648 ∨ 2147483647 < d
    (inRange [] ∧ ([] : List Int).length ≤ 65535) ∧
    (inRange [-2147483648, 2147483647] ∧ [-2147483648, 2147483647].length ≤ 65535) ∧
    (inRange (List.replicate 65535 0) ∧ (List.replicate 65535 (0 : Int)).length ≤ 65535) ∧
    outside [0, -2147483649] ∧ outside [2147483648] ∧ 65535 < (List.replicate 65536 (0 : Int)).length := by
  refine ⟨by simp, by simp, ⟨fun d hd => ?_, List.length_replicate.le⟩, by simp, by simp,
    Nat.lt_of_lt_of_eq (by decide) List.length_replicate.symm⟩
  obtain ⟨-, rfl⟩ := List.mem_replicate.mp hd
  decide

/-- P1: three deltas into N = 3 motors. -/
theorem witness_DeltaBufferHoldsExpandedDeltas :
    let ds : List Counter := [2#32, 0xFFFFFFFF#32, 0#32]
    let s := s1 .idle ((ds.zipIdx.flatMap fun (d, k) =>
      [⟨false, 0#64, true, encode (.writeDelta (BitVec.ofNat 16 k) d)⟩, ⟨false, 0#64, false, 0#64⟩]) ++ [])
    s.Inv ∧ s.st = .idle ∧ ds.length ≤ s.n.toNat ∧ ds ≠ [] :=
  ⟨s1_inv_idle _, by decide, by decide, by decide⟩

theorem witness_StepRunsDecodedCommand :
    let s := s1 .idle [offer 0#64 0x0300000000000000#64]
    (s.cfg.WellFormed ∧ s.st = .idle ∧ s.Offers 0x0300000000000000#64 ∧
      decode 0x0300000000000000#64 = .ok .home) ∧
    decode (BitVec.ofNat 64 0x0900000100000000) = .ok (.readPos 1#16) := by decide

theorem witness_CommandAcceptance :
    let s := s1 .idle [offer 0#64 0x0300000000000000#64]
    let q := s1 .idle [tick 0#64]
    let b := s1 .gate [tick 0#64]
    (s.cfg.WellFormed ∧ s.inputs = offer 0#64 0x0300000000000000#64 :: [] ∧ s.st = .idle ∧
      decode 0x0300000000000000#64 = .ok .home) ∧
    (q.st = .idle ∧ q.inputs = tick 0#64 :: [] ∧ (tick 0#64).cmdValid = false ∧ (tick 0#64).rst = false) ∧
    b.st ≠ .idle := by decide

/-- E4, E1 and E2: one for each way to be illegal, with the first illegal opcode on each side. -/
theorem witness_IllegalWordRaises :
    let s := fun w => s1 .idle [offer 0#64 w]
    ((s 0x0101000000000001#64).Offers 0x0101000000000001#64 ∧ rsvField 0x0101000000000001#64 ≠ 0#8) ∧
    ((s 0#64).Offers 0#64 ∧ (opField 0#64).toNat = 0) ∧
    ((s 0x0A00000000000000#64).Offers 0x0A00000000000000#64 ∧ 9 < (opField 0x0A00000000000000#64).toNat) ∧
    (s 0#64).st = .idle ∧ (s 0#64).cfg.WellFormed := by decide

theorem witness_DoneLastsOneCycle :
    let s := s1 .done [offer 0#64 0x0300000000000000#64]
    s.cfg.WellFormed ∧ s.st = .done ∧ s.nextInput.rst = false := by decide

theorem witness_ResponseHeldUntilCompletion :
    let s := { s1 .gate [tick 5000#64] with respStatus := 3#4 }
    step s = .next (nextOf s) ∧ s.nextInput.rst = false ∧ (nextOf s).st ≠ .done :=
  ⟨step_of_steps (by decide), by decide, by decide⟩

/-- Each status in turn: E1, SP6, C2, C3, C7, M13, M8; and a completion with OK. -/
theorem witness_ErrorsHaveExactlyTheirCauses :
    let s := fun w => s1 .idle [offer 0#64 w]
    (∀ w ∈ [0#64, 0x0500000000000000#64, 0x0600000000000000#64, 0x0700000000000000#64, 0x0700000900000000#64,
        0x0900000300000000#64, 0x0400000300000007#64, 0x0200000400000000#64, 0x0900000200000000#64],
      step (s w) = .next (nextOf (s w)) ∧ (s w).nextInput.rst = false ∧ (nextOf (s w)).st = .done) ∧
    ([0#64, 0x0500000000000000#64, 0x0600000000000000#64, 0x0700000000000000#64, 0x0700000900000000#64,
        0x0900000300000000#64, 0x0400000300000007#64, 0x0200000400000000#64, 0x0900000200000000#64].map
      fun w => (nextOf (s w)).respStatus) = [1#4, 2#4, 2#4, 3#4, 3#4, 4#4, 4#4, 4#4, 0#4] := by
  refine ⟨fun w hw => ⟨step_of_steps ?_, ?_, ?_⟩, by decide⟩
  · exact forall_of_all (P := fun w => steps (s1 .idle [offer 0#64 w]) = true) (by decide) w hw
  · rfl
  · exact forall_of_all (P := fun w => (nextOf (s1 .idle [offer 0#64 w])).st = .done) (by decide) w hw

theorem witness_FailedCommandChangesOnlyResponse :
    let s := s1 .idle []
    exec (.readPos 3#16) s = .next (execOf (.readPos 3#16) s) ∧ (execOf (.readPos 3#16) s).st = .done ∧
      (execOf (.readPos 3#16) s).respStatus ≠ 0#4 := ⟨rfl, by decide, by decide⟩

/-- Reset in the middle of a frame. -/
theorem witness_ResetCycleEffect :
    let s := { s1 .clkHi [resets 77#64] with latchQ := true, bi := 2#3 }
    s.cfg.WellFormed ∧ s.inputs = resets 77#64 :: [] ∧ (resets 77#64).rst = true := by decide

theorem witness_ResetHeldIsItsLastCycle :
    let s := s1 .gate [resets 1#64, resets 2#64, resets 3#64]
    s.cfg.WellFormed ∧ s.inputs = [resets 1#64, resets 2#64] ++ resets 3#64 :: [] ∧
      (∀ y ∈ [resets 1#64, resets 2#64], y.rst = true) ∧ (resets 3#64).rst = true := by decide

theorem witness_ResetStateMeetsInvariant : Config.t1.WellFormed ∧ t3.WellFormed := by decide

/-- A state in the middle of a HOME frame, at the last bit of its last motor. -/
theorem witness_StepKeepsInvariant :
    let s := { s1 .clkHi [tick 0#64] with
      mode := .home, m := 3#16, i := 3#16, zc := 1#16, maxch := 2#16, a := 3#16, ret := .mmCheck, bi := 3#3 }
    s.Inv ∧ step s = .next (nextOf s) := ⟨⟨by decide, by decide, by decide, by decide⟩, step_of_steps (by decide)⟩

theorem witness_InvariantStatesAlwaysStep :
    State.Inv { s1 .moStep [] with moIdx := 2#16, moRem := 0x80000000#32 } :=
  ⟨by decide, by decide, by decide, by decide⟩

theorem witness_IllFormedConfigurationRefused :
    ¬ (State.resetOf { Config.t1 with b := 0 } 0#64).cfg.WellFormed := by decide

theorem witness_ConfigurationNeverWritten :
    let s := s1 .idle [offer 0#64 0x0700000500000000#64]
    step s = .next (nextOf s) := step_of_steps (by decide)

/-- RESIZE 5 writes N and DBUF, SET_SPEED_RPM 600 and SET_SPEED_RAD 3 write STEP_DELAY, WRITE_DELTA writes DBUF,
an opening gate writes LAST. -/
theorem witness_ControlRegistersHaveTheirWriters :
    let s := fun w => { s1 .idle [offer 0#64 w] with dbuf := List.replicate 8 1#32 }
    let g := s1 .gate [tick 5000#64]
    (∀ w ∈ [0x0700000500000000#64, 0x0500000000000258#64, 0x0600000000000003#64, 0x0400000000000002#64],
      step (s w) = .next (nextOf (s w)) ∧ (s w).nextInput.rst = false) ∧
    (nextOf (s 0x0700000500000000#64)).n ≠ (s 0#64).n ∧
    (nextOf (s 0x0700000500000000#64)).dbuf ≠ (s 0#64).dbuf ∧
    (nextOf (s 0x0500000000000258#64)).stepDelay ≠ (s 0#64).stepDelay ∧
    (nextOf (s 0x0600000000000003#64)).stepDelay ≠ (s 0#64).stepDelay ∧
    (nextOf (s 0x0400000000000002#64)).dbuf ≠ (s 0#64).dbuf ∧
    (step g = .next (nextOf g) ∧ g.nextInput.rst = false ∧ (nextOf g).last ≠ g.last) := by
  refine ⟨fun w hw => ⟨step_of_steps ?_, ?_⟩, by decide, by decide, by decide, by decide, by decide,
    step_of_steps (by decide), by decide, by decide⟩
  · exact forall_of_all (P := fun w =>
      steps { s1 .idle [offer 0#64 w] with dbuf := List.replicate 8 1#32 } = true) (by decide) w hw
  · rfl

/-- A latch that is high as its trace says, and a reset that drops it. -/
theorem witness_PinLevelsFollowTheTrace :
    let s := { s1 .latchEnd [resets 0#64] with latchQ := true, pinTrace := [⟨.latch, true⟩] }
    step s = .next (nextOf s) ∧ (∀ p, s.pinLevel p = levelAfter p s.pinTrace) ∧ s.nextInput.rst = true :=
  ⟨step_of_steps (by decide), by intro p; cases p <;> decide, by decide⟩

/-- MoveOneAcceptance, MoveManyAcceptance, WriteDeltaAcceptance, ReadPosAcceptance: the last motor in range and the
first out of range, MOVE_MANY at and above N, and a word with each encoding (its unused fields not 0). -/
theorem witness_MotorIndexAcceptances :
    let s := s1 .idle []
    (s.ShapeOk ∧ (2#16).toNat < s.n.toNat ∧ s.n.toNat ≤ (3#16).toNat) ∧
    ((3#16).toNat ≤ s.n.toNat ∧ s.n.toNat < (4#16).toNat) ∧
    (∀ wo ∈ [(0x01000002FFFFFFFE#64, 0x01#8), (0x02000002FFFFFFFE#64, 0x02#8), (0x04000002FFFFFFFE#64, 0x04#8),
        (0x09000002FFFFFFFE#64, 0x09#8)],
      opField wo.1 = wo.2 ∧ rsvField wo.1 = 0#8 ∧ f16Field wo.1 = 2#16 ∧ f32Field wo.1 = 0xFFFFFFFE#32) :=
  ⟨by decide, by decide, forall_of_all (by decide)⟩

/-- HomeAcceptance, GetMotorCountAcceptance: encodings with junk in unused fields; the actions have no hypothesis. -/
theorem witness_NoOperandAcceptances :
    (opField 0x0300123400000007#64 = 0x03#8 ∧ rsvField 0x0300123400000007#64 = 0#8) ∧
    (opField 0x08001234DEADBEEF#64 = 0x08#8 ∧ rsvField 0x08001234DEADBEEF#64 = 0#8) := by decide

/-- SetSpeedRpmAcceptance, SetSpeedRadAcceptance: the speeds 0 and 1, each with a word of its encoding. -/
theorem witness_SpeedAcceptances :
    (1#32 ≠ 0#32 ∧ opField 0x0500000000000001#64 = 0x05#8 ∧ rsvField 0x0500000000000001#64 = 0#8 ∧
      f32Field 0x0500000000000001#64 = 1#32) ∧
    (opField 0x0600000000000000#64 = 0x06#8 ∧ rsvField 0x0600000000000000#64 = 0#8 ∧
      f32Field 0x0600000000000000#64 = 0#32) := by decide

/-- The counts 0, 1, NMAX and NMAX+1. -/
theorem witness_ResizeAcceptance :
    let s := s1 .idle []
    (1 ≤ (1#16).toNat ∧ (1#16).toNat ≤ s.cfg.nmax) ∧ (1 ≤ (8#16).toNat ∧ (8#16).toNat ≤ s.cfg.nmax) ∧
    (0#16).toNat = 0 ∧ s.cfg.nmax < (9#16).toNat ∧
    (opField 0x0700000900000000#64 = 0x07#8 ∧ rsvField 0x0700000900000000#64 = 0#8 ∧
      f16Field 0x0700000900000000#64 = 9#16) := by decide

/-- C1 with C5. -/
theorem witness_CountAfterResize :
    let s := s1 .idle [offer 0#64 0x0700000500000000#64, tick 1#64, offer 2#64 0x0800000000000000#64]
    s.Inv ∧ s.st = .idle ∧ (0x0700000500000000#64 = encode (.resize 5#16) ∧
      0x0800000000000000#64 = encode .getMotorCount) := ⟨s1_inv_idle _, by decide, by decide⟩

/-- MO_REM at 0, 1 and −1. -/
theorem witness_MoStepRule :
    let s := fun r : Counter => { s1 .moStep [tick 0#64] with moIdx := 2#16, moRem := r }
    ((s 0#32).moRem.toInt = 0 ∧ 0 < (s 1#32).moRem.toInt ∧ (s 0xFFFFFFFF#32).moRem.toInt < 0) ∧
    ∀ r ∈ [0#32, 1#32, 0xFFFFFFFF#32], (s r).cfg.WellFormed ∧ (s r).st = .moStep ∧
      (s r).nextInput.rst = false ∧ (s r).pos[(s r).moIdx.toNat]? = some 0xFFFFFFFE#32 :=
  ⟨by decide, forall_of_all (by decide)⟩

/-- REM[2] at 0, 1 and −1, in the last motor of the pass. -/
theorem witness_PassRule_many :
    let s := fun r : Counter => { s1 .mmPass [tick 0#64] with
      mode := .many, m := 3#16, i := 2#16, rem := 0#32 :: 0#32 :: r :: List.replicate 5 0#32 }
    ((0#32).toInt = 0 ∧ 0 < (1#32).toInt ∧ (0xFFFFFFFF#32).toInt < 0) ∧
    ∀ r ∈ [0#32, 1#32, 0xFFFFFFFF#32], (s r).cfg.WellFormed ∧ (s r).st = .mmPass ∧ (s r).mode = .many ∧
      (s r).nextInput.rst = false ∧ (s r).rem[(s r).i.toNat]? = some r ∧
      (s r).pos[(s r).i.toNat]? = some 0xFFFFFFFE#32 ∧ (s r).i.toNat < (s r).m.toNat :=
  ⟨by decide, forall_of_all (by decide)⟩

/-- POS[0] = 3, POS[1] = 0 and POS[2] = −2. -/
theorem witness_PassRule_home :
    let s := fun i : Idx => { s1 .mmPass [tick 0#64] with mode := .home, m := 3#16, i := i }
    (∀ i ∈ [0#16, 1#16, 2#16], (s i).cfg.WellFormed ∧ (s i).st = .mmPass ∧ (s i).mode = .home ∧
      (s i).nextInput.rst = false ∧ (s i).i.toNat < (s i).m.toNat) ∧
    (s 0#16).pos[(s 0#16).i.toNat]? = some 3#32 ∧ 0 < (3#32).toInt ∧
    (s 1#16).pos[(s 1#16).i.toNat]? = some 0#32 ∧ (0#32).toInt = 0 ∧
    (s 2#16).pos[(s 2#16).i.toNat]? = some 0xFFFFFFFE#32 ∧ (0xFFFFFFFE#32).toInt < 0 :=
  ⟨forall_of_all (by decide), by decide⟩

theorem witness_PassRule_end :
    let p := { s1 .mmPass [tick 0#64] with m := 3#16, i := 3#16 }
    p.cfg.WellFormed ∧ p.nextInput.rst = false ∧ p.st = .mmPass ∧ p.m.toNat ≤ p.i.toNat := by decide

/-- ZC at M and one below. -/
theorem witness_ExitTestAfterFrame :
    let c := fun z : Idx => { s1 .mmCheck [tick 0#64] with m := 3#16, zc := z }
    (c 3#16).cfg.WellFormed ∧ (c 3#16).st = .mmCheck ∧ (c 3#16).nextInput.rst = false ∧
      (c 3#16).zc = (c 3#16).m ∧ (c 2#16).zc ≠ (c 2#16).m := by decide

/-- G1 and G2: elapsed 4999 and 5000. -/
theorem witness_GateRule :
    let s := fun now : Time => { s1 .gate [tick now] with last := 1000#64 }
    ((s 6000#64).cfg.WellFormed ∧ (s 6000#64).st = .gate ∧ (s 6000#64).nextInput.rst = false ∧
      (s 6000#64).stepDelay.toNat ≤ ((s 6000#64).nextInput.now - (s 6000#64).last).toNat) ∧
    ((s 5999#64).nextInput.now - (s 5999#64).last).toNat < (s 5999#64).stepDelay.toNat := by decide

/-- Each state, and CLK_HI at the last but one bit, at the last bit of motor 1 and of motor 0. -/
theorem witness_SerializerRules :
    let s := fun (st : Fsm) (fi : Idx) (bi : BitVec 3) => { s1 st [tick 0#64] with fi := fi, bi := bi }
    (∀ st ∈ [Fsm.clkLo, Fsm.dataSet, Fsm.clkHi], (s st 0#16 0#3).cfg.WellFormed ∧
      (s st 0#16 0#3).nextInput.rst = false ∧ (s st 0#16 0#3).st = st) ∧
    (s .clkHi 0#16 2#3).bi.toNat < (s .clkHi 0#16 2#3).cfg.b - 1 ∧
    ((s .clkHi 1#16 3#3).cfg.b - 1 ≤ (s .clkHi 1#16 3#3).bi.toNat ∧ 0 < (s .clkHi 1#16 3#3).fi.toNat) ∧
    ((s .clkHi 0#16 3#3).cfg.b - 1 ≤ (s .clkHi 0#16 3#3).bi.toNat ∧ (s .clkHi 0#16 3#3).fi.toNat = 0) := by
  decide

/-- Each state; LOAD of motor 2 at −2, whose phase index is 2 (R62). -/
theorem witness_FrameStateRules :
    let s := fun st : Fsm => { s1 st [tick 0#64] with fi := 2#16, a := 4#16 }
    (∀ st ∈ [Fsm.latchLo, Fsm.load, Fsm.latchHi, Fsm.latchEnd], (s st).cfg.WellFormed ∧
      (s st).nextInput.rst = false ∧ (s st).st = st) ∧
    (s .load).pos[(s .load).fi.toNat]? = some 0xFFFFFFFE#32 ∧
    (s .load).cfg.phaseTable[((0xFFFFFFFE#32).toInt % ((s .load).cfg.cycle : Int)).toNat]? = some 0x04#8 := by
  decide

/-- CYCLE = 3 is well formed, with a table of three entries. -/
theorem witness_PhaseIndexAlwaysValid : ph.WellFormed := by decide

/-- PH2 and PH3. -/
theorem witness_PhaseIsPeriodic :
    Config.t1.WellFormed ∧ (Config.t1.cycle : Int) ∣ (5#32).toInt - (1#32).toInt := by decide

/-- CYCLE = 4, a power of two, and CYCLE = 3, none. -/
theorem witness_WrapKeepsPhaseExactlyForPowersOfTwo : Config.t1.WellFormed ∧ ph.WellFormed := by decide

/-- SP5: the largest delay, SPR = 1 at 1 rpm. -/
theorem witness_DelaysAreSingleTruncations :
    Config.WellFormed { Config.t1 with spr := 1 } ∧ (1#32 : Word) ≠ 0#32 := by decide

/-- A whole frame of configuration T3, and what it leaves. -/
theorem witness_FramePutsExactlyItsEvents :
    let s := { State.resetOf t3 0#64 with
      st := .latchLo, ret := .moStep, a := 1#16, inputs := ticks 7 }
    s.Inv ∧ s.st = .latchLo ∧ frameCycles s = 7 ∧ s.Quiet (frameCycles s) :=
  ⟨⟨by decide, by decide, by decide, by decide⟩, by decide, by decide, by decide⟩

theorem witness_FrameHasOneLatchPulse : ph.WellFormed := by decide

/-- T1's table with its four high bits set, over a run of five cycles. -/
theorem witness_HighPatternBitsNeverShow :
    let s := s1 .idle (offer 0#64 0x0300000000000000#64 :: ticks 4)
    let table := [0xF1#8, 0xF2#8, 0xF4#8, 0xF8#8]
    s.Inv ∧ s.st = .idle ∧ table.length = s.cfg.phaseTable.length ∧
      (∀ j b : Nat, b < s.cfg.b → (table.getD j 0#8).getLsbD b = (s.cfg.phaseTable.getD j 0#8).getLsbD b) ∧
      stepsTo 1 s = .next (nextOf s) := by
  refine ⟨s1_inv_idle _, by decide, by decide, fun j b hb => ?_, run_one (k := 0) (by decide)⟩
  rcases j with _ | _ | _ | _ | j
  iterate 4 (revert b; decide)
  simp [s1, State.reset, State.resetOf, Config.t1]

theorem witness_FrozenTimeHangsTheGate :
    let s := { s1 .gate [tick 5999#64, tick 5999#64] with last := 1000#64 }
    s.cfg.WellFormed ∧ s.st = .gate ∧ s.Quiet 2 ∧
      (∀ x ∈ s.inputs.take 2, (x.now - s.last).toNat < s.stepDelay.toNat) := by decide

/-- G3: 2^64 − 100 and 2^64 + 4900, across the wrap. -/
theorem witness_GateOpeningsAreSpaced :
    let s := { s1 .gate [tick 4900#64] with last := 0xFFFFFFFFFFFFFF9C#64 }
    step s = .next (nextOf s) ∧ s.nextInput.rst = false ∧ (nextOf s).gateOpens ≠ s.gateOpens ∧
      s.last = BitVec.ofNat 64 18446744073709551516 ∧ s.nextInput.now = BitVec.ofNat 64 18446744073709556516 ∧
      18446744073709551516 ≤ 18446744073709556516 ∧ 18446744073709556516 - 18446744073709551516 < 2 ^ 64 :=
  ⟨step_of_steps (by decide), by decide, by decide, by decide, by decide, by decide, by decide⟩

/-- Two cycles: a wait and an opening, with STEP_DELAY at 5000 throughout. -/
theorem witness_FramesAreSpacedAlongRuns :
    let s := s1 .gate [tick 4999#64, tick 5000#64]
    s.gateOpens = [] ∧ s.Quiet 2 ∧
      (s.last :: (s.inputs.take 2).map Input.now).Pairwise (fun a b => a.toNat ≤ b.toNat) ∧
      (∀ j ≤ 2, ∀ u, stepsTo j s = .next u → 5000 ≤ u.stepDelay.toNat) ∧
      stepsTo 2 s = .next (runState 2 s) := by
  have h1 := run_one (s := s1 .gate [tick 4999#64, tick 5000#64]) (k := 0) (by decide)
  have h2 := run_one (s := s1 .gate [tick 4999#64, tick 5000#64]) (k := 1) (by decide)
  have h3 := run_one (s := nextOf (s1 .gate [tick 4999#64, tick 5000#64])) (k := 0) (by decide)
  refine ⟨by decide, by decide, by decide, fun j hj u hu => ?_, h2.trans h3⟩
  rcases j with _ | _ | _ | j
  · cases hu; decide
  · rw [h1] at hu; cases hu; decide
  · rw [h2, h3] at hu; cases hu; decide
  · omega

/-- No step (two cycles to DONE) and one step (CT1: eleven cycles to DONE). -/
theorem witness_MoveOneNetEffect :
    (let s := s3 0x0100000000000000#64 1
     s.Inv ∧ s.st = .idle ∧ s.Quiet 2 ∧ s.Offers (encode (.moveOne 0#16 0#32)) ∧ (0#16).toNat < s.n.toNat ∧
       s.pos[(0#16).toNat]? = some 0#32 ∧ CompletesAt 2 s (runState 2 s)) ∧
    (let s := s3 0x0100000000000001#64 10
     s.Inv ∧ s.st = .idle ∧ s.Quiet 11 ∧ s.Offers (encode (.moveOne 0#16 1#32)) ∧ (0#16).toNat < s.n.toNat ∧
       s.pos[(0#16).toNat]? = some 0#32 ∧ CompletesAt 11 s (runState 11 s)) :=
  ⟨⟨s3_inv _ _, by decide, by decide, by decide, by decide, by decide, completes_of (by decide) (by decide)⟩,
    ⟨s3_inv _ _, by decide, by decide, by decide, by decide, by decide, completes_of (by decide) (by decide)⟩⟩

/-- CT2: 24 cycles with DONE, and L at its bound N. -/
theorem witness_MoveManyNetEffect :
    let s := { s3 0x0200000100000000#64 22 with dbuf := [1#32] }
    s.Inv ∧ s.st = .idle ∧ s.Quiet 23 ∧ s.Offers (encode (.moveMany 1#16)) ∧ (1#16).toNat ≤ s.n.toNat ∧
      CompletesAt 23 s (runState 23 s) :=
  ⟨⟨by decide, by decide, by decide, by decide⟩, by decide, by decide, by decide, by decide,
    completes_of (by decide) (by decide)⟩

/-- HOME from 1: two frames. -/
theorem witness_HomeNetEffect :
    let s := { s3 0x0300000000000000#64 22 with pos := [1#32] }
    s.Inv ∧ s.st = .idle ∧ s.Quiet 23 ∧ s.Offers (encode .home) ∧ CompletesAt 23 s (runState 23 s) :=
  ⟨⟨by decide, by decide, by decide, by decide⟩, by decide, by decide, by decide,
    completes_of (by decide) (by decide)⟩

theorem witness_PassMovesEachMotorAtMostOnce :
    let s := { s1 .mmPass (ticks 4) with mode := .home, m := 3#16 }
    s.Inv ∧ s.st = .mmPass ∧ s.i = 0#16 ∧ s.zc = 0#16 ∧ s.maxch = 0#16 ∧ s.Quiet (s.m.toNat + 1) :=
  ⟨⟨by decide, by decide, by decide, by decide⟩, by decide, by decide, by decide, by decide, by decide⟩

/-- STEP_DELAY = 1 and a time that alternates: whatever the watermark, one of two neighbouring samples opens. -/
theorem witness_EveryCommandTerminates :
    let s := { s1 .gate [] with stepDelay := 1#32, a := 1#16, ret := .moStep, moRem := 1#32 }
    let f : Nat → Input := fun j => tick (BitVec.ofNat 64 (j % 2))
    s.Inv ∧ s.st ≠ .idle ∧ (∀ j, (f j).rst = false) ∧
      (∀ (j : Nat) (p : Time), ∃ j', j ≤ j' ∧ s.stepDelay.toNat ≤ ((f j').now - p).toNat) := by
  refine ⟨⟨by decide, by decide, by decide, by decide⟩, by decide, fun _ => rfl, fun j p => ?_⟩
  show ∃ j', j ≤ j' ∧ 1 ≤ (BitVec.ofNat 64 (j' % 2) - p).toNat
  by_cases h : p = 0#64
  · refine ⟨2 * j + 1, by omega, ?_⟩
    rw [show (2 * j + 1) % 2 = 1 by omega, h]; decide
  · refine ⟨2 * j, by omega, ?_⟩
    rw [show (2 * j) % 2 = 0 by omega]
    bv_omega

/-- Two idle states that differ in stale sequencer registers only. -/
theorem witness_StaleSequencerStateNeverShows :
    let s := s1 .idle [tick 0#64]
    let s' := { s with moIdx := 7#16, m := 9#16, a := 4#16, sr := 0xFF#8, ret := .moStep, fi := 5#16 }
    s.Inv ∧ s'.Inv ∧ s.st = .idle ∧ s.scrub = s'.scrub ∧ s ≠ s' ∧ stepsTo 1 s = .next (nextOf s) :=
  ⟨s1_inv_idle _, ⟨by decide, by decide, by decide, by decide⟩, by decide, by decide, by decide,
    run_one (k := 0) (by decide)⟩

/-- ERR_RANGE of READ_POS 3 (C7), with the next word already offered in DONE. -/
theorem witness_ErrorEntryAndReturn :
    let s := s1 .idle [offer 0#64 0x0900000300000000#64, offer 1#64 0x0300000000000000#64]
    s.cfg.WellFormed ∧ s.st = .idle ∧
      s.inputs = offer 0#64 0x0900000300000000#64 :: offer 1#64 0x0300000000000000#64 :: [] ∧
      (offer 0#64 0x0900000300000000#64).rst = false ∧ (offer 1#64 0x0300000000000000#64).rst = false ∧
      step s = .next (nextOf s) ∧ (nextOf s).st = .done ∧ (nextOf s).respStatus ≠ 0#4 :=
  ⟨by decide, by decide, by decide, by decide, by decide, step_of_steps (by decide), by decide, by decide⟩

/-- CT3: HOME with nothing to do, and MOVE_MANY 0; both take twelve cycles or one less to DONE. -/
theorem witness_AllZeroMoveSendsOneFrame :
    (let s := s3 0x0300000000000000#64 11
     s.Inv ∧ s.st = .idle ∧ s.Quiet 12 ∧ CompletesAt 12 s (runState 12 s) ∧ s.Offers (encode .home) ∧
       ∀ p ∈ s.pos.take s.n.toNat, p = 0#32) ∧
    (let s := s3 0x0200000000000000#64 10
     s.Inv ∧ s.st = .idle ∧ s.Quiet 11 ∧ CompletesAt 11 s (runState 11 s) ∧ (0#16).toNat ≤ s.n.toNat ∧
       s.Offers (encode (.moveMany 0#16)) ∧ ∀ d ∈ s.dbuf.take (0#16).toNat, d = 0#32) :=
  ⟨⟨s3_inv _ _, by decide, by decide, completes_of (by decide) (by decide), by decide,
      forall_of_all (by decide)⟩,
    ⟨s3_inv _ _, by decide, by decide, completes_of (by decide) (by decide), by decide, by decide,
      forall_of_all (by decide)⟩⟩

end Sys2Proof.Tests
end

section
/-! PROOF. The scope of the model (R1, R2): which configurations it runs. -/

namespace Sys2Proof.Machine

/-- Settles O22: the configuration is checked before the cycle runs, so `step_refused` applies in every state. -/
theorem illFormedConfigurationRefused : Obligations.IllFormedConfigurationRefused :=
  fun _ hIllFormed => step_refused hIllFormed

end Sys2Proof.Machine
end

section
/-! PROOF. What a cycle without reset can do, one constructor per branch of a state rule. -/

namespace Sys2Proof.Machine

/-! ### The sequencer's steps -/

/-- What a cycle without reset outside IDLE can do, one constructor per branch of a state rule: the state met,
what bounds its indices, and the state it answers (`cycle_advances`). The values that a branch computes for a
counter, a remaining delta, a pattern or the data bit are left open. -/
inductive Advances (now : Time) (s : State) : State → Prop
  | finish (hst : s.st = .done) : Advances now s s.finish
  | moveOneDone (hst : s.st = .moStep) : Advances now s (s.respond .ok 0#32)
  | moveOneStep (hst : s.st = .moStep) (rem p : Counter) :
      Advances now s { s with
        moRem := rem, pos := s.pos.set s.moIdx.toNat p, a := s.moIdx + 1#16, ret := .moStep, st := .gate }
  | passZero (hst : s.st = .mmPass) (hlt : s.i.toNat < s.m.toNat) :
      Advances now s { s with i := s.i + 1#16, zc := s.zc + 1#16 }
  | passMany (hst : s.st = .mmPass) (hlt : s.i.toNat < s.m.toNat) (r p : Counter) :
      Advances now s { s with
        i := s.i + 1#16, rem := s.rem.set s.i.toNat r, pos := s.pos.set s.i.toNat p, maxch := s.i }
  | passHome (hst : s.st = .mmPass) (hlt : s.i.toNat < s.m.toNat) (p : Counter) :
      Advances now s { s with i := s.i + 1#16, pos := s.pos.set s.i.toNat p, maxch := s.i }
  | passFrame (hst : s.st = .mmPass) : Advances now s (s.requestFrame (s.maxch + 1#16) .mmCheck)
  | checkDone (hst : s.st = .mmCheck) : Advances now s (s.respond .ok 0#32)
  | checkAgain (hst : s.st = .mmCheck) : Advances now s s.startPass
  | gateWait (hst : s.st = .gate) : Advances now s s
  | gateOpen (hst : s.st = .gate) :
      Advances now s { s with last := now, st := .latchLo, gateOpens := s.gateOpens ++ [now] }
  | latchLo (hst : s.st = .latchLo) :
      Advances now s { s.drivePin .latch false with fi := activeCount s.cfg s.a s.n - 1#16, st := .load }
  | load (hst : s.st = .load) (v : Pattern) : Advances now s { s with sr := v, bi := 0#3, st := .clkLo }
  | clkLo (hst : s.st = .clkLo) : Advances now s ((s.drivePin .clk false).goto .dataSet)
  | dataSet (hst : s.st = .dataSet) (v : Bool) : Advances now s ((s.drivePin .data v).goto .clkHi)
  | nextBit (hst : s.st = .clkHi) (hlt : s.bi.toNat + 1 < s.cfg.b) :
      Advances now s { s.drivePin .clk true with bi := s.bi + 1#3, st := .clkLo }
  | nextMotor (hst : s.st = .clkHi) (hne : s.fi ≠ 0#16) :
      Advances now s { s.drivePin .clk true with fi := s.fi - 1#16, st := .load }
  | lastMotor (hst : s.st = .clkHi) : Advances now s ((s.drivePin .clk true).goto .latchHi)
  | latchHi (hst : s.st = .latchHi) : Advances now s ((s.drivePin .latch true).goto .latchEnd)
  | latchEnd (hst : s.st = .latchEnd) : Advances now s ((s.drivePin .latch false).goto (retState s.ret))

theorem mmPass_advances {now : Time} {s t : State} (hst : s.st = .mmPass) (h : mmPass s = .next t) :
    Advances now s t := by
  rcases mmPass_next h with ⟨hlt, -, h⟩ | ⟨hlt, -, h⟩ | ⟨-, rfl⟩
  · obtain ⟨r, -, ⟨-, rfl⟩ | ⟨-, p, -, rfl⟩⟩ := updateMany_next h
    · exact .passZero hst hlt
    · exact .passMany hst hlt _ _
  · obtain ⟨p, -, ⟨-, rfl⟩ | ⟨-, rfl⟩⟩ := updateHome_next h
    · exact .passZero hst hlt
    · exact .passHome hst hlt _
  · exact .passFrame hst

/-- What a cycle without reset can be: no command taken, a word taken in IDLE, or a step of the sequencer. -/
theorem cycle_advances {x : Input} {s t : State} (h : cycle x s = .next t) (hrst : x.rst = false) :
    t = s ∨ (s.st = .idle ∧ t = s.raise .errIllegal) ∨
    (s.st = .idle ∧ ∃ i, decode x.cmdWord = .ok i ∧ exec i s = .next t) ∨ Advances x.now s t := by
  rcases cycle_cases h with ⟨hr, -⟩ | ⟨-, h⟩
  · simp [hrst] at hr
  rcases h with ⟨-, -, rfl⟩ | ⟨hst, -, -, -, rfl⟩ | ⟨hst, -, i, hd, he⟩ | ⟨hst, rfl⟩ | ⟨hst, he⟩ | ⟨hst, he⟩ |
    ⟨hst, he⟩ | ⟨hst, he⟩ | ⟨hst, rfl⟩ | ⟨hst, he⟩ | ⟨hst, rfl⟩ | ⟨hst, rfl⟩ | ⟨hst, he⟩ | ⟨hst, rfl⟩ | ⟨hst, rfl⟩
  · exact .inl rfl
  · exact .inr (.inl ⟨hst, rfl⟩)
  · exact .inr (.inr (.inl ⟨hst, i, hd, he⟩))
  all_goals refine .inr (.inr (.inr ?_))
  · exact .finish hst
  · rcases moStep_next he with ⟨-, rfl⟩ | ⟨-, p, -, rfl⟩
    · exact .moveOneDone hst
    · exact .moveOneStep hst _ _
  · exact mmPass_advances hst he
  · rcases mmCheck_next he with ⟨-, rfl⟩ | ⟨-, rfl⟩
    · exact .checkDone hst
    · exact .checkAgain hst
  · rcases gate_next he with ⟨-, rfl⟩ | ⟨-, rfl⟩
    · exact .gateOpen hst
    · exact .gateWait hst
  · exact .latchLo hst
  · obtain ⟨p, v, -, -, rfl⟩ := load_next he
    exact .load hst v
  · exact .clkLo hst
  · exact .dataSet hst _
  · rcases clkHi_next he with ⟨hlt, rfl⟩ | ⟨-, hne, rfl⟩ | ⟨-, -, rfl⟩
    · exact .nextBit hst hlt
    · exact .nextMotor hst hne
    · exact .lastMotor hst
  · exact .latchHi hst
  · exact .latchEnd hst

end Sys2Proof.Machine
end

section
/-! PROOF. What a cycle leaves unchanged, and the statements that follow from it (10_state.md R14 to R35). -/

namespace Sys2Proof.Machine

/-! ### What a cycle without reset leaves unchanged -/

/-- Every pin is where `s` has it and no event is added, or one pin was driven once (R7, R31). -/
def PinsDriven (s t : State) : Prop :=
  (t.pinLevel = s.pinLevel ∧ t.pinTrace = s.pinTrace) ∨
  ∃ p v, t.pinLevel = (s.drivePin p v).pinLevel ∧ t.pinTrace = (s.drivePin p v).pinTrace

/-- What every cycle without reset keeps, command or sequencer step, at time `now`. A field that is not given
is proved by what it speaks of being unchanged. -/
structure CycleFrame (now : Time) (s t : State) : Prop where
  /-- R34. -/
  cfg : t.cfg = s.cfg := by rfl
  /-- R14, R15, R17, R25. -/
  shape : s.ShapeOk → t.ShapeOk := by exact id
  /-- R20, R56, R124. -/
  resp : (t.st = .done ∧ ∃ e, t.respStatus = statusCode e) ∨
    (t.respStatus = s.respStatus ∧ t.respData = s.respData) := by exact .inr ⟨rfl, rfl⟩
  /-- R19, R85. -/
  last : t.last = s.last ∨
    (s.st = .gate ∧ t.last = now ∧ t.gateOpens = s.gateOpens ++ [t.last]) := by exact .inl rfl
  /-- R21, R31. -/
  pins : PinsDriven s t := by exact .inl ⟨rfl, rfl⟩

/-- A response frames a cycle that has written only N, STEP_DELAY and arrays before it. -/
theorem CycleFrame.respond {now : Time} {s u : State} (e : Status) (d : Word) (hcfg : u.cfg = s.cfg)
    (hshape : s.ShapeOk → u.ShapeOk) (hlast : u.last = s.last) (hlevel : u.pinLevel = s.pinLevel)
    (htrace : u.pinTrace = s.pinTrace) : CycleFrame now s (u.respond e d) where
  cfg := hcfg
  shape := hshape
  resp := .inl ⟨rfl, e, rfl⟩
  last := .inl hlast
  pins := .inl ⟨hlevel, htrace⟩

theorem respond_cycleFrame (now : Time) (s : State) (e : Status) (d : Word) :
    CycleFrame now s (s.respond e d) := .respond e d rfl id rfl rfl rfl

theorem length_copyDeltas {dbuf rem : List Counter} {len : Nat} (hd : len ≤ dbuf.length)
    (hr : len ≤ rem.length) : (copyDeltas dbuf rem len).length = rem.length := by
  simp [copyDeltas]; omega

theorem exec_cycleFrame (now : Time) {i : Instr} {s t : State} (h : exec i s = .next t) :
    CycleFrame now s t := by
  cases i with
  | moveOne idx delta =>
    rcases execMoveOne_next h with ⟨-, rfl⟩ | ⟨-, rfl⟩
    · exact {}
    · exact respond_cycleFrame ..
  | moveMany len =>
    rcases execMoveMany_next h with ⟨-, hd, hr, rfl⟩ | ⟨-, rfl⟩
    · exact {
        shape := fun ⟨hn, hpos, hdbuf, hrem⟩ => ⟨hn, hpos, hdbuf, (length_copyDeltas hd hr).trans hrem⟩ }
    · exact respond_cycleFrame ..
  | home =>
    obtain rfl := execHome_next h
    exact {}
  | writeDelta idx delta =>
    rcases execWriteDelta_next h with ⟨-, -, rfl⟩ | ⟨-, rfl⟩
    · exact .respond _ _ rfl (by simp [State.ShapeOk]) rfl rfl rfl
    · exact respond_cycleFrame ..
  | setSpeedRpm r =>
    rcases execSetSpeedRpm_next h with ⟨-, rfl⟩ | ⟨-, rfl⟩
    · exact .respond _ _ rfl id rfl rfl rfl
    · exact respond_cycleFrame ..
  | setSpeedRad r =>
    rcases execSetSpeedRad_next h with ⟨-, rfl⟩ | ⟨-, rfl⟩
    · exact .respond _ _ rfl id rfl rfl rfl
    · exact respond_cycleFrame ..
  | resize c =>
    rcases execResize_next h with ⟨hge, hle, rfl⟩ | ⟨-, rfl⟩
    · exact .respond _ _ rfl (fun ⟨_, _, _, hrem⟩ => ⟨⟨hge, hle⟩, by simp, by simp, hrem⟩) rfl rfl rfl
    · exact respond_cycleFrame ..
  | getMotorCount =>
    obtain rfl := execGetMotorCount_next h
    exact respond_cycleFrame ..
  | readPos idx =>
    rcases execReadPos_next h with ⟨-, p, -, rfl⟩ | ⟨-, rfl⟩ <;> exact respond_cycleFrame ..

/-- A sequencer step keeps the frame: its arrays keep their lengths, a response ends it, only the gate writes
LAST, and it drives at most one pin. -/
theorem Advances.cycleFrame {now : Time} {s t : State} (h : Advances now s t) : CycleFrame now s t := by
  cases h with
  | moveOneDone | checkDone => exact respond_cycleFrame ..
  | finish | passZero | passFrame | checkAgain | gateWait | load => exact {}
  | moveOneStep | passMany | passHome => exact { shape := by simp [State.ShapeOk] }
  | gateOpen hst => exact { last := .inr ⟨hst, rfl, rfl⟩ }
  | latchLo | clkLo | dataSet | nextBit | nextMotor | lastMotor | latchHi | latchEnd =>
    exact { pins := .inr ⟨_, _, rfl, rfl⟩ }

theorem cycle_cycleFrame {x : Input} {s t : State} (h : cycle x s = .next t) (hrst : x.rst = false) :
    CycleFrame x.now s t := by
  rcases cycle_advances h hrst with rfl | ⟨-, rfl⟩ | ⟨-, i, -, he⟩ | h
  · exact {}
  · exact respond_cycleFrame ..
  · exact exec_cycleFrame _ he
  · exact h.cycleFrame

/-- The sequencer reads N, STEP_DELAY and DBUF and never writes them (R14, R17, R18). -/
theorem Advances.control {now : Time} {s t : State} (h : Advances now s t) :
    t.n = s.n ∧ t.stepDelay = s.stepDelay ∧ t.dbuf = s.dbuf := by
  cases h <;> exact ⟨rfl, rfl, rfl⟩

/-- The commands that write N, STEP_DELAY and DBUF (R14, R17, R18). -/
theorem exec_writers {i : Instr} {s t : State} (h : exec i s = .next t) :
    (t.n ≠ s.n → i = .resize t.n) ∧
    (t.stepDelay ≠ s.stepDelay → (∃ r, i = .setSpeedRpm r) ∨ (∃ r, i = .setSpeedRad r)) ∧
    (t.dbuf ≠ s.dbuf → (∃ k d, i = .writeDelta k d) ∨ (∃ c, i = .resize c)) := by
  cases i with
  | moveOne => rcases execMoveOne_next h with ⟨-, rfl⟩ | ⟨-, rfl⟩ <;> simp
  | moveMany => rcases execMoveMany_next h with ⟨-, -, -, rfl⟩ | ⟨-, rfl⟩ <;> simp
  | home => obtain rfl := execHome_next h; simp
  | writeDelta => rcases execWriteDelta_next h with ⟨-, -, rfl⟩ | ⟨-, rfl⟩ <;> simp
  | setSpeedRpm => rcases execSetSpeedRpm_next h with ⟨-, rfl⟩ | ⟨-, rfl⟩ <;> simp
  | setSpeedRad => rcases execSetSpeedRad_next h with ⟨-, rfl⟩ | ⟨-, rfl⟩ <;> simp
  | resize => rcases execResize_next h with ⟨-, -, rfl⟩ | ⟨-, rfl⟩ <;> simp
  | getMotorCount => obtain rfl := execGetMotorCount_next h; simp
  | readPos => rcases execReadPos_next h with ⟨-, p, -, rfl⟩ | ⟨-, rfl⟩ <;> simp

/-- N, STEP_DELAY and DBUF are kept unless a word is taken in IDLE. -/
theorem cycle_control {x : Input} {s t : State} (h : cycle x s = .next t) (hrst : x.rst = false) :
    (t.n = s.n ∧ t.stepDelay = s.stepDelay ∧ t.dbuf = s.dbuf) ∨
    (s.st = .idle ∧ ∃ i, decode x.cmdWord = .ok i ∧ exec i s = .next t) := by
  rcases cycle_advances h hrst with rfl | ⟨-, rfl⟩ | hexec | hadv
  · exact .inl ⟨rfl, rfl, rfl⟩
  · exact .inl ⟨rfl, rfl, rfl⟩
  · exact .inr hexec
  · exact .inl hadv.control

/-- A completed acceptance action either answers OK or is `raise` and nothing else (R8, R35). -/
theorem exec_done {i : Instr} {s t : State} (h : exec i s = .next t) (hst : t.st = .done) :
    t.respStatus = 0#4 ∨ ∃ e, t = s.raise e := by
  cases i with
  | moveOne =>
    rcases execMoveOne_next h with ⟨-, rfl⟩ | ⟨-, rfl⟩
    · cases hst
    · exact .inl rfl
  | moveMany =>
    rcases execMoveMany_next h with ⟨-, -, -, rfl⟩ | ⟨-, rfl⟩
    · cases hst
    · exact .inr ⟨_, rfl⟩
  | home => obtain rfl := execHome_next h; cases hst
  | writeDelta =>
    rcases execWriteDelta_next h with ⟨-, -, rfl⟩ | ⟨-, rfl⟩
    · exact .inl rfl
    · exact .inr ⟨_, rfl⟩
  | setSpeedRpm =>
    rcases execSetSpeedRpm_next h with ⟨-, rfl⟩ | ⟨-, rfl⟩
    · exact .inl rfl
    · exact .inr ⟨_, rfl⟩
  | setSpeedRad =>
    rcases execSetSpeedRad_next h with ⟨-, rfl⟩ | ⟨-, rfl⟩
    · exact .inl rfl
    · exact .inr ⟨_, rfl⟩
  | resize =>
    rcases execResize_next h with ⟨-, -, rfl⟩ | ⟨-, rfl⟩
    · exact .inl rfl
    · exact .inr ⟨_, rfl⟩
  | getMotorCount => obtain rfl := execGetMotorCount_next h; exact .inl rfl
  | readPos =>
    rcases execReadPos_next h with ⟨-, p, -, rfl⟩ | ⟨-, rfl⟩
    · exact .inl rfl
    · exact .inr ⟨_, rfl⟩

/-! ### The pins -/

theorem pinLevel_drivePin (s : State) (p q : Pin) (v : Bool) :
    (s.drivePin p v).pinLevel q = if p = q then v else s.pinLevel q := by
  cases q <;> rfl

/-- Driving a pin moves its level and its last event together. -/
theorem PinsDriven.levelAfter {s t : State} (h : PinsDriven s t)
    (hs : ∀ p, s.pinLevel p = levelAfter p s.pinTrace) (q : Pin) :
    t.pinLevel q = Machine.levelAfter q t.pinTrace := by
  rcases h with ⟨hlevel, htrace⟩ | ⟨p, v, hlevel, htrace⟩
  · rw [hlevel, htrace, hs]
  · rw [hlevel, htrace, pinLevel_drivePin, State.drivePin_pinTrace, levelAfter_append, hs]

theorem pinLevel_resetCycle (s : State) (now : Time) (p : Pin) : (s.resetCycle now).pinLevel p = false := by
  cases p <;> rfl

@[simp] theorem pinLevel_dropInput (s : State) : s.dropInput.pinLevel = s.pinLevel := by
  funext p; cases p <;> simp [State.pinLevel]

/-! ### The step -/

/-- A step is a reset cycle or a cycle without reset that keeps the frame. -/
theorem step_cases {s t : State} (h : step s = .next t) :
    (s.nextInput.rst = true ∧ t = s.dropInput.resetCycle s.nextInput.now) ∨
    (s.nextInput.rst = false ∧ CycleFrame s.nextInput.now s.dropInput t) := by
  obtain ⟨-, hc⟩ := step_next h
  cases hrst : s.nextInput.rst with
  | true =>
    rw [cycle_reset hrst] at hc
    cases hc
    exact .inl ⟨rfl, rfl⟩
  | false => exact .inr ⟨rfl, cycle_cycleFrame hc hrst⟩

/-- A step without reset keeps the frame. -/
theorem step_cycleFrame {s t : State} (h : step s = .next t) (hrst : s.nextInput.rst = false) :
    CycleFrame s.nextInput.now s.dropInput t :=
  cycle_cycleFrame (step_next h).2 hrst

/-! ### The statements -/

/-- Settles O13: `State.outputs` reads ST and the registers. -/
theorem controlOutputs : Obligations.ControlOutputs := by
  intro s
  simp [State.outputs]

/-- Settles O14, by the response clause of the cycle's frame. -/
theorem responseHeldUntilCompletion : Obligations.ResponseHeldUntilCompletion := by
  intro s t h hrst hst
  rcases (step_cycleFrame h hrst).resp with ⟨hdone, -⟩ | hkept
  · exact absurd hdone hst
  · simpa using hkept

/-- Settles O16: a completion with a status other than OK is a `raise`. -/
theorem failedCommandChangesOnlyResponse : Obligations.FailedCommandChangesOnlyResponse := by
  intro i s t h hst hfail
  rcases exec_done h hst with hok | ⟨e, rfl⟩
  · exact absurd hok hfail
  · rfl

/-- Settles O23: a reset cycle keeps the configuration, and so does the frame of every other cycle. -/
theorem configurationNeverWritten : Obligations.ConfigurationNeverWritten := by
  intro s t h
  rcases step_cases h with ⟨-, rfl⟩ | ⟨-, hf⟩
  · simp
  · simpa using hf.cfg

/-- Settles O24: N, STEP_DELAY and DBUF by the writing commands, since the sequencer keeps them; LAST by the
frame of the cycle. -/
theorem controlRegistersHaveTheirWriters : Obligations.ControlRegistersHaveTheirWriters := by
  intro s t h hrst
  have hlast : t.last ≠ s.last →
      s.st = .gate ∧ t.last = s.nextInput.now ∧ t.gateOpens = s.gateOpens ++ [t.last] := by
    intro hne
    rcases (step_cycleFrame h hrst).last with heq | hgate
    · exact absurd (by simpa using heq) hne
    · simpa using hgate
  rcases cycle_control (step_next h).2 hrst with ⟨hn, hdelay, hdbuf⟩ | ⟨hst, i, hd, he⟩
  · simp only [State.dropInput_n, State.dropInput_stepDelay, State.dropInput_dbuf] at hn hdelay hdbuf
    exact ⟨absurd hn, absurd hdelay, absurd hdbuf, hlast⟩
  · obtain ⟨hn, hdelay, hdbuf⟩ := exec_writers he
    simp only [State.dropInput_n, State.dropInput_stepDelay, State.dropInput_dbuf, State.dropInput_st]
      at hn hdelay hdbuf hst
    rw [hd]
    exact ⟨fun hne => ⟨hst, t.n, by rw [← hn hne], rfl⟩, fun hne => ⟨hst, by simpa using hdelay hne⟩,
      fun hne => ⟨hst, by simpa using hdbuf hne⟩, hlast⟩

/-- Settles O25: a cycle drives at most one pin, and a reset cycle clears the levels and the trace together. -/
theorem pinLevelsFollowTheTrace : Obligations.PinLevelsFollowTheTrace := by
  intro s t h
  rcases step_cases h with ⟨-, rfl⟩ | ⟨hrst, hf⟩
  · refine ⟨fun _ p => ?_, fun _ => ⟨pinLevel_resetCycle _ _, by simp⟩⟩
    rw [pinLevel_resetCycle]; rfl
  · exact ⟨fun hs => hf.pins.levelAfter (by simpa using hs), fun hr => by simp [hrst] at hr⟩

end Sys2Proof.Machine
end

section
/-! PROOF. The invariant (R14, R15, R22, R37, R124): every step keeps it. -/

namespace Sys2Proof.Machine

/-! ### The indices in use, state by state -/

/-- What a pass needs of its registers (R105, R108). -/
def State.PassOk (s : State) : Prop :=
  s.m.toNat ≤ s.n.toNat ∧ s.i.toNat ≤ s.m.toNat ∧ s.zc.toNat ≤ s.i.toNat ∧ s.maxch.toNat < s.n.toNat

/-- What a frame carries through from its request to its end: the registers of the command it returns to, and
its active count (R81). -/
def State.FrameOk (s : State) : Prop :=
  (s.ret = .moStep → s.moIdx.toNat < s.n.toNat) ∧ (s.ret = .mmCheck → s.PassOk) ∧
    1 ≤ s.a.toNat ∧ s.a.toNat ≤ s.n.toNat

theorem indicesOk_of_rest {s : State} (h : s.st = .idle ∨ s.st = .done) : s.IndicesOk := by
  rcases h with h | h <;> simp [State.IndicesOk, State.inMoveOne, State.inPass, Fsm.inFrame, h]

theorem indicesOk_moStep {s : State} (h : s.st = .moStep) : s.IndicesOk ↔ s.moIdx.toNat < s.n.toNat := by
  simp [State.IndicesOk, State.inMoveOne, State.inPass, Fsm.inFrame, h]

theorem indicesOk_pass {s : State} (h : s.st = .mmPass ∨ s.st = .mmCheck) : s.IndicesOk ↔ s.PassOk := by
  rcases h with h | h <;>
    simp [State.IndicesOk, State.PassOk, State.inMoveOne, State.inPass, Fsm.inFrame, h]

theorem indicesOk_frame {s : State} (h : s.st = .gate ∨ s.st = .latchLo ∨ s.st = .latchHi ∨ s.st = .latchEnd) :
    s.IndicesOk ↔ s.FrameOk := by
  rcases h with h | h | h | h <;>
    simp [State.IndicesOk, State.FrameOk, State.PassOk, State.inMoveOne, State.inPass, Fsm.inFrame, h]

theorem indicesOk_load {s : State} (h : s.st = .load) :
    s.IndicesOk ↔ s.FrameOk ∧ s.fi.toNat < s.n.toNat := by
  simp [State.IndicesOk, State.FrameOk, State.PassOk, State.inMoveOne, State.inPass, Fsm.inFrame, h, and_assoc]

theorem indicesOk_bit {s : State} (h : s.st = .clkLo ∨ s.st = .dataSet ∨ s.st = .clkHi) :
    s.IndicesOk ↔ s.FrameOk ∧ s.fi.toNat < s.n.toNat ∧ s.bi.toNat < s.cfg.b := by
  rcases h with h | h | h <;>
    simp [State.IndicesOk, State.FrameOk, State.PassOk, State.inMoveOne, State.inPass, Fsm.inFrame, h, and_assoc]

/-! ### The invariant -/

/-- A command that sets something in motion starts with its indices in range (R98, R103, R104). -/
theorem exec_indicesOk {i : Instr} {s t : State} (hn : 1 ≤ s.n.toNat) (h : exec i s = .next t) :
    t.IndicesOk := by
  by_cases hdone : t.st = .done
  · exact indicesOk_of_rest (.inr hdone)
  cases i with
  | moveOne =>
    rcases execMoveOne_next h with ⟨hidx, rfl⟩ | ⟨-, rfl⟩
    · exact (indicesOk_moStep rfl).mpr hidx
    · exact absurd rfl hdone
  | moveMany =>
    rcases execMoveMany_next h with ⟨hlen, -, -, rfl⟩ | ⟨-, rfl⟩
    · exact (indicesOk_pass (.inl rfl)).mpr ⟨hlen, Nat.zero_le _, le_rfl, hn⟩
    · exact absurd rfl hdone
  | home =>
    obtain rfl := execHome_next h
    exact (indicesOk_pass (.inl rfl)).mpr ⟨le_rfl, Nat.zero_le _, le_rfl, hn⟩
  | writeDelta => rcases execWriteDelta_next h with ⟨-, -, rfl⟩ | ⟨-, rfl⟩ <;> exact absurd rfl hdone
  | setSpeedRpm => rcases execSetSpeedRpm_next h with ⟨-, rfl⟩ | ⟨-, rfl⟩ <;> exact absurd rfl hdone
  | setSpeedRad => rcases execSetSpeedRad_next h with ⟨-, rfl⟩ | ⟨-, rfl⟩ <;> exact absurd rfl hdone
  | resize => rcases execResize_next h with ⟨-, -, rfl⟩ | ⟨-, rfl⟩ <;> exact absurd rfl hdone
  | getMotorCount => obtain rfl := execGetMotorCount_next h; exact absurd rfl hdone
  | readPos => rcases execReadPos_next h with ⟨-, p, -, rfl⟩ | ⟨-, rfl⟩ <;> exact absurd rfl hdone

/-- A sequencer step keeps its indices in range: each state hands the next one the registers it uses. -/
theorem Advances.indicesOk {now : Time} {s t : State} (h : Advances now s t) (hn : 1 ≤ s.n.toNat)
    (hb : 1 ≤ s.cfg.b ∧ s.cfg.b ≤ 8) (hs : s.IndicesOk) : t.IndicesOk := by
  cases h with
  | finish => exact indicesOk_of_rest (.inl rfl)
  | moveOneDone | checkDone => exact indicesOk_of_rest (.inr rfl)
  | moveOneStep hst =>
    have hidx := (indicesOk_moStep hst).mp hs
    have hsucc := idx_succ hidx
    exact (indicesOk_frame (.inl rfl)).mpr ⟨fun _ => hidx, nofun, by simp [hsucc], by simp [hsucc]; omega⟩
  | passZero hst hlt =>
    obtain ⟨hm, -, hzc, hmaxch⟩ := (indicesOk_pass (.inl hst)).mp hs
    have hi := idx_succ hlt
    have hz := idx_succ (hzc.trans_lt hlt)
    exact (indicesOk_pass (by exact .inl hst)).mpr ⟨hm, by simp [hi]; omega, by simp [hi, hz, hzc], hmaxch⟩
  | passMany hst hlt | passHome hst hlt =>
    obtain ⟨hm, -, hzc, -⟩ := (indicesOk_pass (.inl hst)).mp hs
    have hi := idx_succ hlt
    exact (indicesOk_pass (by exact .inl hst)).mpr ⟨hm, by simp [hi]; omega, by simp [hi]; omega, hlt.trans_le hm⟩
  | passFrame hst =>
    have hpass := (indicesOk_pass (.inl hst)).mp hs
    have ⟨_, _, _, hmaxch⟩ := hpass
    have hsucc := idx_succ hmaxch
    exact (indicesOk_frame (.inl rfl)).mpr ⟨nofun, fun _ => hpass, by simp [hsucc], by simp [hsucc]; omega⟩
  | checkAgain hst =>
    obtain ⟨hm, -, -, -⟩ := (indicesOk_pass (.inr hst)).mp hs
    exact (indicesOk_pass (.inl rfl)).mpr ⟨hm, Nat.zero_le _, le_rfl, hn⟩
  | gateWait => exact hs
  | gateOpen hst => exact (indicesOk_frame (.inr (.inl rfl))).mpr ((indicesOk_frame (.inl hst)).mp hs)
  | latchLo hst =>
    have hframe := (indicesOk_frame (.inr (.inl hst))).mp hs
    obtain ⟨hge, hle⟩ := activeCount_bounds s.cfg (a := s.a) hn
    have hpred := idx_pred (a := activeCount s.cfg s.a s.n) (fun h0 => by simp [h0] at hge)
    exact (indicesOk_load rfl).mpr ⟨hframe, by simp [hpred]; omega⟩
  | load hst =>
    obtain ⟨hframe, hfi⟩ := (indicesOk_load hst).mp hs
    exact (indicesOk_bit (.inl rfl)).mpr ⟨hframe, hfi, hb.1⟩
  | clkLo hst => exact (indicesOk_bit (.inr (.inl rfl))).mpr ((indicesOk_bit (.inl hst)).mp hs)
  | dataSet hst => exact (indicesOk_bit (.inr (.inr rfl))).mpr ((indicesOk_bit (.inr (.inl hst))).mp hs)
  | nextBit hst hlt =>
    obtain ⟨hframe, hfi, -⟩ := (indicesOk_bit (.inr (.inr hst))).mp hs
    exact (indicesOk_bit (.inl rfl)).mpr ⟨hframe, hfi, by simp; omega⟩
  | nextMotor hst hne =>
    obtain ⟨hframe, hfi, -⟩ := (indicesOk_bit (.inr (.inr hst))).mp hs
    have hpred := idx_pred hne
    exact (indicesOk_load rfl).mpr ⟨hframe, by simp [hpred]; omega⟩
  | lastMotor hst =>
    obtain ⟨hframe, -⟩ := (indicesOk_bit (.inr (.inr hst))).mp hs
    exact (indicesOk_frame (.inr (.inr (.inl rfl)))).mpr hframe
  | latchHi hst =>
    exact (indicesOk_frame (.inr (.inr (.inr rfl)))).mpr ((indicesOk_frame (.inr (.inr (.inl hst)))).mp hs)
  | latchEnd hst =>
    obtain ⟨hmove, hpass, -⟩ := (indicesOk_frame (.inr (.inr (.inr hst)))).mp hs
    cases hret : s.ret with
    | moStep => exact (indicesOk_moStep rfl).mpr (hmove hret)
    | mmCheck => exact (indicesOk_pass (.inr rfl)).mpr (hpass hret)

/-- The frame of a cycle keeps every part of the invariant but the indices in range. -/
theorem CycleFrame.inv {now : Time} {s t : State} (h : CycleFrame now s t) (hs : s.Inv)
    (ht : t.IndicesOk) : t.Inv := by
  obtain ⟨hcfg, hshape, hstatus, -⟩ := hs
  refine ⟨h.cfg ▸ hcfg, h.shape hshape, ?_, ht⟩
  rcases h.resp with ⟨-, e, he⟩ | ⟨he, -⟩ <;> rw [he]
  · exact statusCode_le e
  · exact hstatus

theorem resetCycle_inv {s : State} (hs : s.cfg.WellFormed) (now : Time) : (s.resetCycle now).Inv := by
  refine ⟨hs, ?_, by simp, indicesOk_of_rest (.inl rfl)⟩
  obtain ⟨⟨-, hmax⟩, hinit, -⟩ := hs
  simp [State.ShapeOk]
  omega

theorem cycle_keeps_inv {x : Input} {s t : State} (hs : s.Inv) (h : cycle x s = .next t) : t.Inv := by
  have ⟨hcfg, ⟨⟨hn, _⟩, _⟩, _, hidx⟩ := hs
  cases hrst : x.rst with
  | true =>
    rw [cycle_reset hrst] at h
    cases h
    exact resetCycle_inv hcfg _
  | false =>
    refine (cycle_cycleFrame h hrst).inv hs ?_
    rcases cycle_advances h hrst with rfl | ⟨-, rfl⟩ | ⟨-, i, -, he⟩ | hadv
    · exact hidx
    · exact indicesOk_of_rest (.inr rfl)
    · exact exec_indicesOk hn he
    · obtain ⟨-, -, -, hb, -⟩ := hcfg
      exact hadv.indicesOk hn hb hidx

theorem dropInput_inv {s : State} (hs : s.Inv) : s.dropInput.Inv := by
  simpa [State.Inv, State.ShapeOk, State.IndicesOk, State.inMoveOne, State.inPass] using hs

/-- Settles O20: taking the cycle's sample touches no register, and every cycle keeps the invariant. -/
theorem stepKeepsInvariant : Obligations.StepKeepsInvariant :=
  fun _ _ hs h => cycle_keeps_inv (dropInput_inv hs) (step_next h).2

end Sys2Proof.Machine
end

section
/-! PROOF. The sequencer registers show in no behaviour outside a command (R29). -/

namespace Sys2Proof.Machine

/-! ### Two states that differ only in sequencer registers -/

/-- `s` with the sequencer registers of R23 to R28 taken from `q`. -/
def State.withSeq (s q : State) : State :=
  { s with
    moIdx := q.moIdx, moRem := q.moRem, mode := q.mode, m := q.m, rem := q.rem, i := q.i, zc := q.zc
    maxch := q.maxch, a := q.a, ret := q.ret, fi := q.fi, bi := q.bi, sr := q.sr }

/-- States that agree on what a host can observe differ in the sequencer registers at most. -/
theorem eq_withSeq_of_scrub_eq {s s' : State} (h : s.scrub = s'.scrub) : s' = s.withSeq s' := by
  cases s; cases s'
  simpa [State.scrub, State.withSeq, eq_comm] using h

/-- What does not read the sequencer registers has the same value on both. -/
theorem eq_of_scrub_eq {α : Type} (f : State → α) (hf : ∀ u, f u.scrub = f u) {s s' : State}
    (h : s.scrub = s'.scrub) : f s = f s' := by
  rw [← hf s, ← hf s', h]

theorem scrub_dropInput (s : State) : s.dropInput.scrub = s.scrub.dropInput := by
  unfold State.dropInput State.scrub
  cases s.inputs <;> rfl

/-! ### The registers a state uses -/

/-- The registers of a MOVE_ONE in progress agree (R99). -/
def MoveAgree (s s' : State) : Prop := s'.moIdx = s.moIdx ∧ s'.moRem = s.moRem

/-- The registers of a pass agree; of REM, only the entries that a MOVE_MANY considers (R105, R106). -/
def PassAgree (s s' : State) : Prop :=
  s'.mode = s.mode ∧ s'.m = s.m ∧ s'.i = s.i ∧ s'.zc = s.zc ∧ s'.maxch = s.maxch ∧
    (s.mode = .many → ∀ k < s.m.toNat, s'.rem[k]? = s.rem[k]?)

/-- The registers that a frame carries from its request to its end agree (R81). -/
def FrameAgree (s s' : State) : Prop :=
  s'.a = s.a ∧ s'.ret = s.ret ∧ (s.ret = .moStep → MoveAgree s s') ∧ (s.ret = .mmCheck → PassAgree s s')

/-- The registers that state `st` uses, itself or in a state it leads to before they are written, agree. -/
def LiveAgree (s s' : State) : Fsm → Prop
  | .idle | .done => True
  | .moStep => MoveAgree s s'
  | .mmPass | .mmCheck => PassAgree s s'
  | .gate | .latchLo | .latchHi | .latchEnd => FrameAgree s s'
  | .load => FrameAgree s s' ∧ s'.fi = s.fi
  | .clkLo | .dataSet | .clkHi => FrameAgree s s' ∧ s'.fi = s.fi ∧ s'.bi = s.bi ∧ s'.sr = s.sr

/-- The simulation: the states agree in all but the sequencer registers, and in those the current state uses. -/
structure Similar (s s' : State) : Prop where
  visible : s.scrub = s'.scrub
  remLength : s'.rem.length = s.rem.length
  live : LiveAgree s s' s.st

/-- If `r` answers a next state, then `r'` answers a similar one. -/
def Follows (r r' : Result) : Prop := ∀ t, r = .next t → ∃ t', r' = .next t' ∧ Similar t t'

theorem Follows.next {t t' : State} (h : Similar t t') : Follows (.next t) (.next t') := by
  intro u hu
  cases hu
  exact ⟨t', rfl, h⟩

theorem Follows.fault (e : Fault) (r : Result) : Follows (.fault e) r := by
  intro t ht
  cases ht

theorem Follows.ite {c c' : Prop} [Decidable c] [Decidable c'] {a a' b b' : Result} (hc : c' ↔ c)
    (ha : c → Follows a a') (hb : ¬ c → Follows b b') :
    Follows (if c then a else b) (if c' then a' else b') := by
  by_cases h : c
  · rw [if_pos h, if_pos (hc.mpr h)]; exact ha h
  · rw [if_neg h, if_neg (fun h' => h (hc.mp h'))]; exact hb h

theorem Follows.withEntry {xs : List Counter} {k : Idx} {f f' : Counter → Result}
    (h : ∀ v, Follows (f v) (f' v)) : Follows (withEntry xs k f) (withEntry xs k f') := by
  intro t ht
  obtain ⟨v, hv, ht⟩ := withEntry_next ht
  obtain ⟨t', ht', hsim⟩ := h v t ht
  exact ⟨t', by simp [Machine.withEntry, hv, ht'], hsim⟩

/-- An array access looks at the one entry. -/
theorem withEntry_congr {xs ys : List Counter} {k : Idx} (f : Counter → Result)
    (h : ys[k.toNat]? = xs[k.toNat]?) : withEntry ys k f = withEntry xs k f := by
  unfold withEntry
  rw [h]

/-! ### The commands -/

section
variable {s q : State}

/-- A response leaves no sequencer register in use. -/
theorem respond_similar {u u' : State} (e : Status) (d : Word) (hvis : u.scrub = u'.scrub)
    (hlen : u'.rem.length = u.rem.length) : Similar (u.respond e d) (u'.respond e d) :=
  ⟨congrArg (State.respond · e d) hvis, hlen, trivial⟩

theorem Similar.of_pass {u u' : State} (hst : u.st = .mmPass) (hvis : u.scrub = u'.scrub)
    (hlen : u'.rem.length = u.rem.length) (hpass : PassAgree u u') : Similar u u' :=
  ⟨hvis, hlen, by rwa [hst]⟩

theorem respond_follows (e : Status) (d : Word) (hlen : q.rem.length = s.rem.length) :
    Follows (.next (s.respond e d)) (.next ((s.withSeq q).respond e d)) :=
  .next (respond_similar _ _ rfl hlen)

/-- The entries that a MOVE_MANY considers come from DBUF, whatever REM held (R103). -/
theorem copyDeltas_getElem? {dbuf rem : List Counter} {len k : Nat} (hlen : len ≤ dbuf.length) (hk : k < len) :
    (copyDeltas dbuf rem len)[k]? = dbuf[k]? := by
  rw [copyDeltas, List.getElem?_append_left (by simp; omega), List.getElem?_take_of_lt hk]

theorem execMoveMany_follows (len : Idx) (hlen : q.rem.length = s.rem.length) :
    Follows (execMoveMany len s) (execMoveMany len (s.withSeq q)) := by
  refine .ite Iff.rfl (fun _ => respond_follows _ _ hlen) fun _ => ?_
  refine .ite (or_congr Iff.rfl (by rw [← hlen]; rfl)) (fun _ => .fault _ _) fun hbounds => .next ?_
  obtain ⟨hd, hr⟩ := not_or.mp hbounds
  have hd := Nat.not_lt.mp hd
  have hr := Nat.not_lt.mp hr
  refine ⟨rfl, ?_, rfl, rfl, rfl, rfl, rfl, fun _ k hk => ?_⟩
  · exact (length_copyDeltas hd (hlen ▸ hr)).trans (hlen.trans (length_copyDeltas hd hr).symm)
  · exact (copyDeltas_getElem? hd hk).trans (copyDeltas_getElem? hd hk).symm

theorem exec_follows (i : Instr) (hlen : q.rem.length = s.rem.length) :
    Follows (exec i s) (exec i (s.withSeq q)) := by
  cases i with
  | moveOne idx delta =>
    exact .ite Iff.rfl (fun _ => .next ⟨rfl, hlen, rfl, rfl⟩) fun _ => respond_follows _ _ hlen
  | moveMany len => exact execMoveMany_follows len hlen
  | home => exact .next ⟨rfl, hlen, rfl, rfl, rfl, rfl, rfl, nofun⟩
  | writeDelta idx delta =>
    refine .ite Iff.rfl (fun _ => .withEntry fun _ => ?_) fun _ => respond_follows _ _ hlen
    exact .next (respond_similar _ _ rfl hlen)
  | setSpeedRpm rpm =>
    exact .ite Iff.rfl (fun _ => respond_follows _ _ hlen) fun _ => .next (respond_similar _ _ rfl hlen)
  | setSpeedRad rad =>
    exact .ite Iff.rfl (fun _ => respond_follows _ _ hlen) fun _ => .next (respond_similar _ _ rfl hlen)
  | resize count =>
    exact .ite Iff.rfl (fun _ => respond_follows _ _ hlen) fun _ => .next (respond_similar _ _ rfl hlen)
  | getMotorCount => exact respond_follows _ _ hlen
  | readPos idx =>
    exact .ite Iff.rfl (fun _ => .withEntry fun _ => respond_follows _ _ hlen) fun _ =>
      respond_follows _ _ hlen

theorem idle_follows (x : Input) (hst : s.st = .idle) (hlen : q.rem.length = s.rem.length) :
    Follows (idle x s) (idle x (s.withSeq q)) := by
  refine .ite Iff.rfl (fun _ => ?_) fun _ => .next ⟨rfl, hlen, by simp [hst, LiveAgree]⟩
  unfold accept
  cases decode x.cmdWord with
  | ok i => exact exec_follows i hlen
  | error => exact respond_follows _ _ hlen

/-! ### The sequencer -/

theorem moStep_follows (hlen : q.rem.length = s.rem.length) (hmove : MoveAgree s (s.withSeq q)) :
    Follows (moStep s) (moStep (s.withSeq q)) := by
  obtain ⟨hidx, hrem⟩ := hmove
  unfold moStep
  rw [hidx, hrem]
  refine .ite Iff.rfl (fun _ => respond_follows _ _ hlen) fun _ => .withEntry fun _ => .next ?_
  exact ⟨rfl, hlen, rfl, rfl, fun _ => ⟨rfl, rfl⟩, nofun⟩

/-- The entries of REM that a pass reads agree, so it works off the same deltas (R106). -/
theorem updateMany_follows {k : Idx} (hst : s.st = .mmPass) (hk : k.toNat < s.m.toNat) (hmany : s.mode = .many)
    (hlen : q.rem.length = s.rem.length) (hpass : PassAgree s (s.withSeq q)) :
    Follows (updateMany k s) (updateMany k (s.withSeq q)) := by
  obtain ⟨hmode, hm, hi, hzc, hmaxch, hrem⟩ := hpass
  unfold updateMany
  rw [withEntry_congr _ (hrem hmany k.toNat hk)]
  refine .withEntry fun r => .ite Iff.rfl (fun _ => .next ?_) fun _ => .withEntry fun p => .next ?_
  · exact .of_pass hst rfl hlen ⟨hmode, hm, hi, congrArg (· + 1#16) hzc, hmaxch, hrem⟩
  · refine .of_pass hst rfl (by simpa [State.withSeq] using hlen) ⟨hmode, hm, hi, hzc, rfl, fun _ j hj => ?_⟩
    have hj := hrem hmany j hj
    simp only [State.withSeq] at hj
    simp [State.withSeq, List.getElem?_set, hlen, hj]

theorem updateHome_follows {k : Idx} (hst : s.st = .mmPass) (hlen : q.rem.length = s.rem.length)
    (hpass : PassAgree s (s.withSeq q)) : Follows (updateHome k s) (updateHome k (s.withSeq q)) := by
  obtain ⟨hmode, hm, hi, hzc, hmaxch, hrem⟩ := hpass
  refine .withEntry fun p => .ite Iff.rfl (fun _ => .next ?_) fun _ => .next ?_
  · exact .of_pass hst rfl hlen ⟨hmode, hm, hi, congrArg (· + 1#16) hzc, hmaxch, hrem⟩
  · exact .of_pass hst rfl hlen ⟨hmode, hm, hi, hzc, rfl, hrem⟩

theorem mmPass_many {s : State} (hlt : s.i.toNat < s.m.toNat) (hmode : s.mode = .many) :
    mmPass s = updateMany s.i { s with i := s.i + 1#16 } := by
  simp [mmPass, hlt, hmode]

theorem mmPass_home {s : State} (hlt : s.i.toNat < s.m.toNat) (hmode : s.mode = .home) :
    mmPass s = updateHome s.i { s with i := s.i + 1#16 } := by
  simp [mmPass, hlt, hmode]

theorem mmPass_frame {s : State} (hge : ¬ s.i.toNat < s.m.toNat) :
    mmPass s = .next (s.requestFrame (s.maxch + 1#16) .mmCheck) := by
  simp [mmPass, hge]

theorem mmPass_follows (hst : s.st = .mmPass) (hlen : q.rem.length = s.rem.length)
    (hpass : PassAgree s (s.withSeq q)) : Follows (mmPass s) (mmPass (s.withSeq q)) := by
  have ⟨hmode, hm, hi, hzc, hmaxch, hrem⟩ := hpass
  have hadvance : PassAgree { s with i := s.i + 1#16 }
      (State.withSeq { s with i := s.i + 1#16 } { q with i := s.i + 1#16 }) :=
    ⟨hmode, hm, rfl, hzc, hmaxch, hrem⟩
  by_cases hlt : s.i.toNat < s.m.toNat
  · have hlt' : (s.withSeq q).i.toNat < (s.withSeq q).m.toNat := by rwa [hi, hm]
    cases hmany : s.mode with
    | many =>
      rw [mmPass_many hlt hmany, mmPass_many hlt' (hmode.trans hmany), hi]
      exact updateMany_follows (s := { s with i := s.i + 1#16 }) (q := { q with i := s.i + 1#16 })
        hst hlt hmany hlen hadvance
    | home =>
      rw [mmPass_home hlt hmany, mmPass_home hlt' (hmode.trans hmany), hi]
      exact updateHome_follows (s := { s with i := s.i + 1#16 }) (q := { q with i := s.i + 1#16 })
        hst hlen hadvance
  · rw [mmPass_frame hlt, mmPass_frame (by rwa [hi, hm])]
    exact .next ⟨rfl, hlen, congrArg (· + 1#16) hmaxch, rfl, nofun, fun _ => hpass⟩

theorem mmCheck_follows (hlen : q.rem.length = s.rem.length) (hpass : PassAgree s (s.withSeq q)) :
    Follows (mmCheck s) (mmCheck (s.withSeq q)) := by
  obtain ⟨hmode, hm, -, hzc, -, hrem⟩ := hpass
  refine .ite (by rw [hzc, hm]) (fun _ => respond_follows _ _ hlen) fun _ => .next ?_
  exact ⟨rfl, hlen, hmode, hm, rfl, rfl, rfl, hrem⟩

/-! ### The frame -/

theorem gate_follows (now : Time) (hst : s.st = .gate) (hlen : q.rem.length = s.rem.length)
    (hframe : FrameAgree s (s.withSeq q)) : Follows (gate now s) (gate now (s.withSeq q)) := by
  refine .ite Iff.rfl (fun _ => .next ⟨rfl, hlen, hframe⟩) fun _ => .next ⟨rfl, hlen, ?_⟩
  rwa [hst]

theorem latchLo_follows (hlen : q.rem.length = s.rem.length) (hframe : FrameAgree s (s.withSeq q)) :
    Follows (latchLo s) (latchLo (s.withSeq q)) := by
  have ⟨ha, _⟩ := hframe
  exact .next ⟨rfl, hlen, hframe, congrArg (activeCount s.cfg · s.n - 1#16) ha⟩

theorem load_follows (hlen : q.rem.length = s.rem.length) (hframe : FrameAgree s (s.withSeq q))
    (hfi : (s.withSeq q).fi = s.fi) : Follows (load s) (load (s.withSeq q)) := by
  unfold load
  rw [hfi]
  refine .withEntry fun p => ?_
  rw [show phase (s.withSeq q).cfg p = phase s.cfg p from rfl]
  cases phase s.cfg p with
  | some v => exact .next ⟨rfl, hlen, hframe, rfl, rfl, rfl⟩
  | none => exact .fault _ _

theorem dataSet_follows (hlen : q.rem.length = s.rem.length) (hbits : LiveAgree s (s.withSeq q) .dataSet) :
    Follows (dataSet s) (dataSet (s.withSeq q)) := by
  have ⟨_, _, hbi, hsr⟩ := hbits
  unfold dataSet
  rw [hbi, hsr]
  exact .next ⟨rfl, hlen, hbits⟩

theorem clkHi_follows (hlen : q.rem.length = s.rem.length) (hbits : LiveAgree s (s.withSeq q) .clkHi) :
    Follows (clkHi s) (clkHi (s.withSeq q)) := by
  obtain ⟨hframe, hfi, hbi, hsr⟩ := hbits
  refine .ite (by rw [hbi]; rfl) (fun _ => .next ?_) fun _ => ?_
  · exact ⟨rfl, hlen, hframe, hfi, congrArg (· + 1#3) hbi, hsr⟩
  refine .ite (by rw [hfi]) (fun _ => .next ?_) fun _ => .next ?_
  · exact ⟨rfl, hlen, hframe, congrArg (· - 1#16) hfi⟩
  · exact ⟨rfl, hlen, hframe⟩

theorem latchEnd_follows (hlen : q.rem.length = s.rem.length) (hframe : FrameAgree s (s.withSeq q)) :
    Follows (latchEnd s) (latchEnd (s.withSeq q)) := by
  obtain ⟨-, hret, hmove, hpass⟩ := hframe
  unfold latchEnd
  rw [hret]
  cases hr : s.ret with
  | moStep => exact .next ⟨rfl, hlen, hmove hr⟩
  | mmCheck => exact .next ⟨rfl, hlen, hpass hr⟩

end

/-! ### Cycles and runs -/

/-- One cycle keeps the simulation, whatever the input: each state rule reads live registers only. -/
theorem cycle_follows (x : Input) {s s' : State} (h : Similar s s') : Follows (cycle x s) (cycle x s') := by
  obtain ⟨hvis, hlen, hlive⟩ := h
  rw [eq_withSeq_of_scrub_eq hvis] at hlive ⊢
  generalize s' = q at hlen hlive ⊢
  cases hrst : x.rst with
  | true =>
    rw [cycle_reset hrst, cycle_reset hrst]
    exact .next ⟨rfl, rfl, trivial⟩
  | false =>
    have hst' : (s.withSeq q).st = s.st := rfl
    cases hst : s.st <;> rw [hst] at hlive hst'
    case idle => rw [cycle_idle hrst hst, cycle_idle hrst hst']; exact idle_follows x hst hlen
    case done => rw [cycle_done hrst hst, cycle_done hrst hst']; exact .next ⟨rfl, hlen, trivial⟩
    case moStep => rw [cycle_moStep hrst hst, cycle_moStep hrst hst']; exact moStep_follows hlen hlive
    case mmPass => rw [cycle_mmPass hrst hst, cycle_mmPass hrst hst']; exact mmPass_follows hst hlen hlive
    case mmCheck => rw [cycle_mmCheck hrst hst, cycle_mmCheck hrst hst']; exact mmCheck_follows hlen hlive
    case gate => rw [cycle_gate hrst hst, cycle_gate hrst hst']; exact gate_follows _ hst hlen hlive
    case latchLo => rw [cycle_latchLo hrst hst, cycle_latchLo hrst hst']; exact latchLo_follows hlen hlive
    case load => rw [cycle_load hrst hst, cycle_load hrst hst']; exact load_follows hlen hlive.1 hlive.2
    case clkLo => rw [cycle_clkLo hrst hst, cycle_clkLo hrst hst']; exact .next ⟨rfl, hlen, hlive⟩
    case dataSet => rw [cycle_dataSet hrst hst, cycle_dataSet hrst hst']; exact dataSet_follows hlen hlive
    case clkHi => rw [cycle_clkHi hrst hst, cycle_clkHi hrst hst']; exact clkHi_follows hlen hlive
    case latchHi => rw [cycle_latchHi hrst hst, cycle_latchHi hrst hst']; exact .next ⟨rfl, hlen, hlive⟩
    case latchEnd => rw [cycle_latchEnd hrst hst, cycle_latchEnd hrst hst']; exact latchEnd_follows hlen hlive

theorem liveAgree_dropInput (s s' : State) (st : Fsm) :
    LiveAgree s.dropInput s'.dropInput st ↔ LiveAgree s s' st := by
  cases st <;> simp [LiveAgree, MoveAgree, PassAgree, FrameAgree]

/-- Taking a sample keeps the simulation. -/
theorem dropInput_similar {s s' : State} (h : Similar s s') : Similar s.dropInput s'.dropInput := by
  obtain ⟨hvis, hlen, hlive⟩ := h
  exact ⟨by rw [scrub_dropInput, scrub_dropInput, hvis], by simpa using hlen,
    (liveAgree_dropInput ..).mpr (by rwa [State.dropInput_st])⟩

theorem step_follows {s s' : State} (h : Similar s s') : Follows (step s) (step s') := by
  intro t ht
  obtain ⟨hcfg, ht⟩ := step_next ht
  rw [eq_of_scrub_eq State.cfg (fun _ => rfl) h.visible] at hcfg
  rw [eq_of_scrub_eq State.nextInput (fun _ => rfl) h.visible] at ht
  rw [step_eq_cycle hcfg]
  exact cycle_follows _ (dropInput_similar h) t ht

theorem stepsTo_follows (k : Nat) {s s' : State} (h : Similar s s') : Follows (stepsTo k s) (stepsTo k s') := by
  induction k generalizing s s' with
  | zero => exact .next h
  | succ k ih =>
    intro u hu
    obtain ⟨t, ht, hu⟩ := stepsTo_succ_next hu
    obtain ⟨t', ht', hsim⟩ := step_follows h t ht
    rw [stepsTo_succ k ht']
    exact ih hsim u hu

/-- Settles O57: IDLE uses no sequencer register, so states equal but for those are similar there; every step keeps
them similar, and similar states have equal outputs. -/
theorem staleSequencerStateNeverShows : Obligations.StaleSequencerStateNeverShows := by
  intro s s' t k ⟨_, ⟨_, _, _, hlen⟩, _⟩ ⟨_, ⟨_, _, _, hlen'⟩, _⟩ hst hvis hrun
  have hcfg : s.cfg = s'.cfg := eq_of_scrub_eq State.cfg (fun _ => rfl) hvis
  have hsim : Similar s s' := ⟨hvis, by rw [hlen, hlen', hcfg], by simp [hst, LiveAgree]⟩
  obtain ⟨t', hrun', hsim'⟩ := stepsTo_follows k hsim t hrun
  exact ⟨t', hrun', hsim'.visible, eq_of_scrub_eq State.outputs (fun _ => rfl) hsim'.visible⟩

end Sys2Proof.Machine
end

section
/-! PROOF. Progress (R37, R132): in a state that meets the invariant no cycle faults and none is refused. -/

namespace Sys2Proof.Machine

/-! ### Results that answer a next state -/

/-- The result is a next state: neither a fault nor a refusal. -/
def Answers (r : Result) : Prop := ∃ t, r = .next t

theorem Answers.next (t : State) : Answers (.next t) := ⟨t, rfl⟩

theorem Answers.ite {c : Prop} [Decidable c] {a b : Result} (ha : c → Answers a) (hb : ¬ c → Answers b) :
    Answers (if c then a else b) := by
  split
  · exact ha ‹_›
  · exact hb ‹_›

/-- An access below the length answers if its continuation does (R37). -/
theorem Answers.withEntry {xs : List Counter} {k : Idx} {f : Counter → Result} (hk : k.toNat < xs.length)
    (hf : ∀ v, Answers (f v)) : Answers (withEntry xs k f) := by
  rw [withEntry_of_lt f hk]
  exact hf _

/-! ### The array accesses: an index below N is below NMAX, the length of every array -/

section
variable {s : State}

theorem State.ShapeOk.lt_pos (hs : s.ShapeOk) {k : Nat} (hk : k < s.n.toNat) : k < s.pos.length := by
  obtain ⟨⟨-, hmax⟩, hpos, -, -⟩ := hs
  omega

theorem State.ShapeOk.le_dbuf (hs : s.ShapeOk) {k : Nat} (hk : k ≤ s.n.toNat) : k ≤ s.dbuf.length := by
  obtain ⟨⟨-, hmax⟩, -, hdbuf, -⟩ := hs
  omega

theorem State.ShapeOk.le_rem (hs : s.ShapeOk) {k : Nat} (hk : k ≤ s.n.toNat) : k ≤ s.rem.length := by
  obtain ⟨⟨-, hmax⟩, -, -, hrem⟩ := hs
  omega

/-! ### The commands -/

/-- Every command checks its index or length against N before it touches an array (R102, R103, R122). -/
theorem exec_answers (hs : s.ShapeOk) (i : Instr) : Answers (exec i s) := by
  cases i with
  | moveOne | setSpeedRpm | setSpeedRad | resize => exact .ite (fun _ => .next _) fun _ => .next _
  | home | getMotorCount => exact .next _
  | moveMany len =>
    refine .ite (fun _ => .next _) fun hlen => .ite (fun hshort => ?_) fun _ => .next _
    have hlen := Nat.not_lt.mp hlen
    rcases hshort with hdbuf | hrem
    · exact absurd (hs.le_dbuf hlen) (Nat.not_le.mpr hdbuf)
    · exact absurd (hs.le_rem hlen) (Nat.not_le.mpr hrem)
  | writeDelta => exact .ite (fun hidx => .withEntry (hs.le_dbuf hidx) fun _ => .next _) fun _ => .next _
  | readPos => exact .ite (fun hidx => .withEntry (hs.lt_pos hidx) fun _ => .next _) fun _ => .next _

/-- A legal word is executed, an illegal one raises ERR_ILLEGAL, and with no word the cycle changes nothing
(R50, R51). -/
theorem idle_answers (x : Input) (hs : s.ShapeOk) : Answers (idle x s) := by
  refine .ite (fun _ => ?_) fun _ => .next _
  unfold accept
  cases decode x.cmdWord with
  | ok i => exact exec_answers hs i
  | error => exact .next _

/-! ### The state rules that access an array or make a choice -/

theorem moStep_answers (hs : s.ShapeOk) (hidx : s.moIdx.toNat < s.n.toNat) : Answers (moStep s) :=
  .ite (fun _ => .next _) fun _ => .withEntry (hs.lt_pos hidx) fun _ => .next _

theorem updateMany_answers (hs : s.ShapeOk) {k : Idx} (hk : k.toNat < s.n.toNat) : Answers (updateMany k s) :=
  .withEntry (hs.le_rem hk) fun _ =>
    .ite (fun _ => .next _) fun _ => .withEntry (hs.lt_pos hk) fun _ => .next _

theorem updateHome_answers (hs : s.ShapeOk) {k : Idx} (hk : k.toNat < s.n.toNat) : Answers (updateHome k s) :=
  .withEntry (hs.lt_pos hk) fun _ => .ite (fun _ => .next _) fun _ => .next _

/-- A pass considers motor I only while I < M, and M is at most N (R105). -/
theorem mmPass_answers (hs : s.ShapeOk) (hpass : s.PassOk) : Answers (mmPass s) := by
  obtain ⟨hm, -, -, -⟩ := hpass
  by_cases hlt : s.i.toNat < s.m.toNat
  · have hi : s.i.toNat < s.n.toNat := hlt.trans_le hm
    cases hmode : s.mode with
    | many =>
      rw [mmPass_many hlt hmode]
      exact updateMany_answers (s := { s with i := s.i + 1#16 }) hs hi
    | home =>
      rw [mmPass_home hlt hmode]
      exact updateHome_answers (s := { s with i := s.i + 1#16 }) hs hi
  · rw [mmPass_frame hlt]
    exact .next _

theorem mmCheck_answers (s : State) : Answers (mmCheck s) := .ite (fun _ => .next _) fun _ => .next _

theorem gate_answers (now : Time) (s : State) : Answers (gate now s) := .ite (fun _ => .next _) fun _ => .next _

/-- LOAD reads the counter of a motor in range, and every counter selects an entry of the table (R62, R78). -/
theorem load_answers (hcfg : s.cfg.WellFormed) (hs : s.ShapeOk) (hfi : s.fi.toNat < s.n.toNat) :
    Answers (load s) := by
  refine .withEntry (hs.lt_pos hfi) fun p => ?_
  obtain ⟨v, hv⟩ := phase_some hcfg p
  rw [hv]
  exact .next _

theorem clkHi_answers (s : State) : Answers (clkHi s) :=
  .ite (fun _ => .next _) fun _ => .ite (fun _ => .next _) fun _ => .next _

/-! ### The cycle -/

/-- In each state the invariant bounds the indices that its rule uses. -/
theorem cycle_answers (x : Input) (hs : s.Inv) : Answers (cycle x s) := by
  obtain ⟨hcfg, hshape, -, hidx⟩ := hs
  cases hrst : x.rst with
  | true => rw [cycle_reset hrst]; exact .next _
  | false =>
    cases hst : s.st with
    | idle => rw [cycle_idle hrst hst]; exact idle_answers x hshape
    | done => rw [cycle_done hrst hst]; exact .next _
    | moStep => rw [cycle_moStep hrst hst]; exact moStep_answers hshape ((indicesOk_moStep hst).mp hidx)
    | mmPass => rw [cycle_mmPass hrst hst]; exact mmPass_answers hshape ((indicesOk_pass (.inl hst)).mp hidx)
    | mmCheck => rw [cycle_mmCheck hrst hst]; exact mmCheck_answers s
    | gate => rw [cycle_gate hrst hst]; exact gate_answers x.now s
    | latchLo => rw [cycle_latchLo hrst hst]; exact .next _
    | load =>
      obtain ⟨-, hfi⟩ := (indicesOk_load hst).mp hidx
      rw [cycle_load hrst hst]; exact load_answers hcfg hshape hfi
    | clkLo => rw [cycle_clkLo hrst hst]; exact .next _
    | dataSet => rw [cycle_dataSet hrst hst]; exact .next _
    | clkHi => rw [cycle_clkHi hrst hst]; exact clkHi_answers s
    | latchHi => rw [cycle_latchHi hrst hst]; exact .next _
    | latchEnd => rw [cycle_latchEnd hrst hst]; exact .next _

end

/-- Settles O21: the configuration is well formed, so the step is a cycle; taking its sample keeps the invariant,
and a cycle of a state that meets it answers. -/
theorem invariantStatesAlwaysStep : Obligations.InvariantStatesAlwaysStep := by
  intro s hs
  have ⟨hcfg, _⟩ := hs
  rw [step_eq_cycle hcfg]
  exact cycle_answers s.nextInput (dropInput_inv hs)

end Sys2Proof.Machine
end

section
/-! PROOF. The word of a command and back (30_encoding.md R48 to R54): what `encode` writes into each field, and
`decode` by its three cases. -/

namespace Sys2Proof

/-! ### The fields that `encode` writes -/

/-- What a command's word holds in F16: its operand of that field, 0 where R49 marks it unused (R58). -/
def f16Of : Instr → Idx
  | .moveOne idx _ | .writeDelta idx _ | .readPos idx => idx
  | .moveMany len => len
  | .resize count => count
  | .home | .setSpeedRpm _ | .setSpeedRad _ | .getMotorCount => 0#16

/-- What a command's word holds in F32: its operand of that field, 0 where R49 marks it unused (R58). -/
def f32Of : Instr → BitVec 32
  | .moveOne _ delta | .writeDelta _ delta => delta
  | .setSpeedRpm rpm => rpm
  | .setSpeedRad rad => rad
  | .moveMany _ | .home | .resize _ | .getMotorCount | .readPos _ => 0#32

theorem encode_eq_packCmd (i : Instr) : encode i = packCmd (opcodeOf i) 0#8 (f16Of i) (f32Of i) := by
  cases i <;> rfl

@[simp] theorem opField_encode (i : Instr) : opField (encode i) = opcodeOf i := by
  rw [encode_eq_packCmd, opField_packCmd]

@[simp] theorem rsvField_encode (i : Instr) : rsvField (encode i) = 0#8 := by
  rw [encode_eq_packCmd, rsvField_packCmd]

@[simp] theorem f16Field_encode (i : Instr) : f16Field (encode i) = f16Of i := by
  rw [encode_eq_packCmd, f16Field_packCmd]

@[simp] theorem f32Field_encode (i : Instr) : f32Field (encode i) = f32Of i := by
  rw [encode_eq_packCmd, f32Field_packCmd]

/-! ### The opcodes -/

theorem opcodeOf_range (i : Instr) : 1 ≤ (opcodeOf i).toNat ∧ (opcodeOf i).toNat ≤ 9 := by
  cases i <;> simp [opcodeOf]

/-- Each of the opcodes 1 to 9 is the opcode of a command (R49). -/
theorem exists_opcodeOf {op : BitVec 8} (h1 : 1 ≤ op.toNat) (h9 : op.toNat ≤ 9) : ∃ i, op = opcodeOf i := by
  have hop : op = BitVec.ofNat 8 op.toNat := by simp
  generalize op.toNat = k at h1 h9 hop
  subst hop
  interval_cases k
  · exact ⟨.moveOne 0#16 0#32, rfl⟩
  · exact ⟨.moveMany 0#16, rfl⟩
  · exact ⟨.home, rfl⟩
  · exact ⟨.writeDelta 0#16 0#32, rfl⟩
  · exact ⟨.setSpeedRpm 0#32, rfl⟩
  · exact ⟨.setSpeedRad 0#32, rfl⟩
  · exact ⟨.resize 0#16, rfl⟩
  · exact ⟨.getMotorCount, rfl⟩
  · exact ⟨.readPos 0#16, rfl⟩

/-! ### `decode`, by cases: RSV not 0, a known opcode, an unknown one -/

/-- The command of the same mnemonic whose operands are read from `f16` and `f32` (R49, R52). -/
def Instr.withFields (f16 : Idx) (f32 : BitVec 32) : Instr → Instr
  | .moveOne _ _ => .moveOne f16 f32
  | .moveMany _ => .moveMany f16
  | .home => .home
  | .writeDelta _ _ => .writeDelta f16 f32
  | .setSpeedRpm _ => .setSpeedRpm f32
  | .setSpeedRad _ => .setSpeedRad f32
  | .resize _ => .resize f16
  | .getMotorCount => .getMotorCount
  | .readPos _ => .readPos f16

@[simp] theorem withFields_self (i : Instr) : i.withFields (f16Of i) (f32Of i) = i := by cases i <;> rfl

/-- A command does not depend on the fields that its opcode does not use (R53). -/
theorem withFields_congr (i : Instr) {f16 f16' : Idx} {f32 f32' : BitVec 32}
    (h16 : opcodeOf i ∈ [0x01#8, 0x02#8, 0x04#8, 0x07#8, 0x09#8] → f16 = f16')
    (h32 : opcodeOf i ∈ [0x01#8, 0x04#8, 0x05#8, 0x06#8] → f32 = f32') :
    i.withFields f16 f32 = i.withFields f16' f32' := by
  cases i with
  | moveOne | writeDelta => rw [h16 (by simp [opcodeOf]), h32 (by simp [opcodeOf])]
  | moveMany | resize | readPos => rw [h16 (by simp [opcodeOf])]; rfl
  | setSpeedRpm | setSpeedRad => rw [h32 (by simp [opcodeOf])]; rfl
  | home | getMotorCount => rfl

theorem decode_of_rsv_ne {w : Cmd} (hrsv : rsvField w ≠ 0#8) : decode w = .error .reservedNotZero := by
  unfold decode
  exact if_pos hrsv

theorem decode_of_opcode {w : Cmd} {i : Instr} (hrsv : rsvField w = 0#8) (hop : opField w = opcodeOf i) :
    decode w = .ok (i.withFields (f16Field w) (f32Field w)) := by
  rw [decode_of_opField hop hrsv]
  cases i <;> rfl

theorem decode_of_unknown {w : Cmd} (hrsv : rsvField w = 0#8) (hop : ¬ ∃ i, opField w = opcodeOf i) :
    decode w = .error .unknownOpcode := by
  have hrange : ¬ (1 ≤ (opField w).toNat ∧ (opField w).toNat ≤ 9) := fun ⟨h1, h9⟩ => hop (exists_opcodeOf h1 h9)
  rw [decode_of_opField rfl hrsv]
  split
  case h_10 => rfl
  all_goals omega

/-- R54: the legal words are those with RSV = 0 and the opcode of a command. -/
theorem decode_ok_iff {w : Cmd} : (∃ i, decode w = .ok i) ↔ rsvField w = 0#8 ∧ ∃ i, opField w = opcodeOf i := by
  by_cases hrsv : rsvField w = 0#8
  · by_cases hop : ∃ i, opField w = opcodeOf i
    · obtain ⟨i, hi⟩ := hop
      exact ⟨fun _ => ⟨hrsv, i, hi⟩, fun _ => ⟨_, decode_of_opcode hrsv hi⟩⟩
    · simp [decode_of_unknown hrsv hop, hop]
  · simp [decode_of_rsv_ne hrsv, hrsv]

/-- Settles O1: the decoder reads the fields that `encode` wrote. -/
theorem decodeOfEncode : Obligations.DecodeOfEncode := by
  intro i
  rw [decode_of_opcode (rsvField_encode i) (opField_encode i), f16Field_encode, f32Field_encode, withFields_self]

/-- Settles O2: the opcodes of the commands are 1 to 9. -/
theorem legalWordsAreNineOpcodes : Obligations.LegalWordsAreNineOpcodes := by
  intro w
  have hrange : (∃ i, opField w = opcodeOf i) ↔ 1 ≤ (opField w).toNat ∧ (opField w).toNat ≤ 9 :=
    ⟨fun ⟨i, hi⟩ => hi ▸ opcodeOf_range i, fun ⟨h1, h9⟩ => exists_opcodeOf h1 h9⟩
  rw [decode_ok_iff, hrange]

/-- Settles O3: in each of the decoder's three cases the answer depends on OP, RSV and the used fields. -/
theorem unusedFieldsIgnored : Obligations.UnusedFieldsIgnored := by
  intro w w' hop hrsv h16 h32
  by_cases h0 : rsvField w = 0#8
  · by_cases hknown : ∃ i, opField w = opcodeOf i
    · obtain ⟨i, hi⟩ := hknown
      rw [hi] at h16 h32
      rw [decode_of_opcode h0 hi, decode_of_opcode (hrsv ▸ h0) (hop ▸ hi), withFields_congr i h16 h32]
    · rw [decode_of_unknown h0 hknown, decode_of_unknown (hrsv ▸ h0) (hop ▸ hknown)]
  · rw [decode_of_rsv_ne h0, decode_of_rsv_ne (hrsv ▸ h0)]

/-- Settles O4: thirteen closed words, evaluated. -/
theorem specWordsDecode : Obligations.SpecWordsDecode := by
  unfold Obligations.SpecWordsDecode
  decide

end Sys2Proof
end

section
/-! PROOF. What a cycle does with the command port (30_encoding.md R50, R51, R56). -/

namespace Sys2Proof.Machine

/-! ### The rules of IDLE, and a cycle outside it -/

theorem accept_of_ok {w : Cmd} {i : Instr} {s : State} (h : decode w = .ok i) : accept w s = exec i s := by
  simp [accept, h]

theorem accept_of_error {w : Cmd} {e : Illegal} {s : State} (h : decode w = .error e) :
    accept w s = .next (s.raise .errIllegal) := by
  simp [accept, h]

theorem idle_of_valid {x : Input} {s : State} (h : x.cmdValid = true) : idle x s = accept x.cmdWord s := if_pos h

theorem idle_of_not_valid {x : Input} {s : State} (h : x.cmdValid = false) : idle x s = .next s :=
  if_neg (by simp [h])

/-- Outside IDLE a cycle reads only `rst` and `now_us` of its sample (R50). -/
theorem cycle_congr_of_busy {x x' : Input} {s : State} (hst : s.st ≠ .idle) (hrst : x.rst = x'.rst)
    (hnow : x.now = x'.now) : cycle x s = cycle x' s := by
  unfold cycle
  rw [hrst, hnow]
  cases h : s.st with
  | idle => exact absurd h hst
  | _ => rfl

/-! ### Steps of IDLE and DONE -/

theorem nextInput_of_cons {s : State} {x : Input} {rest : List Input} (h : s.inputs = x :: rest) :
    s.nextInput = x := by
  simp [State.nextInput, h]

theorem dropInput_of_cons {s : State} {x : Input} {rest : List Input} (h : s.inputs = x :: rest) :
    s.dropInput = { s with inputs := rest } := by
  simp [State.dropInput, h]

/-- An offered word is taken in IDLE (R50). -/
theorem step_offers {s : State} {w : Cmd} (hcfg : s.cfg.WellFormed) (hst : s.st = .idle) (hw : s.Offers w) :
    step s = accept w s.dropInput := by
  obtain ⟨hrst, hvalid, rfl⟩ := hw
  rw [step_eq_cycle hcfg, cycle_idle hrst (by simpa using hst), idle_of_valid hvalid]

theorem step_done {s : State} (hcfg : s.cfg.WellFormed) (hst : s.st = .done) (hrst : s.nextInput.rst = false) :
    step s = .next s.dropInput.finish := by
  rw [step_eq_cycle hcfg, cycle_done hrst (by simpa using hst)]

/-- The state that `withFetchWord` builds offers its word, and its step takes no listed sample (log entry 9). -/
theorem step_withFetchWord {s : State} {w : Nat} (hcfg : s.cfg.WellFormed) :
    step (s.withFetchWord 64 w) = accept (BitVec.ofNat 64 w) { s with st := .idle } := by
  have hword : BitVec.ofNat 64 (w % 2 ^ 64) = BitVec.ofNat 64 w := BitVec.eq_of_toNat_eq (by simp)
  rw [← hword]
  exact step_offers hcfg rfl ⟨rfl, rfl, rfl⟩

/-- Settles O9: a legal word that is taken is executed. -/
theorem stepRunsDecodedCommand : Obligations.StepRunsDecodedCommand := by
  refine ⟨fun s w i hcfg hst hw hdec => ?_, fun s w i hcfg hdec => ?_⟩
  · rw [step_offers hcfg hst hw, accept_of_ok hdec]
  · rw [step_withFetchWord hcfg, accept_of_ok hdec]

/-- Settles O10: a cycle of IDLE by `cmd_valid`; any other cycle does not read the port. -/
theorem commandAcceptance : Obligations.CommandAcceptance := by
  intro s x rest hcfg hin hrst
  have hnext := nextInput_of_cons hin
  rw [← dropInput_of_cons hin]
  refine ⟨fun hst hvalid i hdec => ?_, fun hst hvalid => ?_, fun hst v w => ?_⟩
  · have hw : s.Offers x.cmdWord := by rw [State.Offers, hnext]; exact ⟨hrst, hvalid, rfl⟩
    rw [step_offers hcfg hst hw, accept_of_ok hdec]
  · rw [step_eq_cycle hcfg, hnext, cycle_idle hrst (by simpa using hst), idle_of_not_valid hvalid]
  · have hother : step { s with inputs := { x with cmdValid := v, cmdWord := w } :: rest } =
        cycle { x with cmdValid := v, cmdWord := w } s.dropInput := by
      rw [dropInput_of_cons hin]
      exact step_eq_cycle hcfg
    rw [hother, step_eq_cycle hcfg, hnext]
    exact cycle_congr_of_busy (by simpa using hst) rfl rfl

/-- Settles O11: a word outside the legal ones (O2) does not decode. -/
theorem illegalWordRaises : Obligations.IllegalWordRaises := by
  intro s w hcfg hst hw hillegal
  cases hdec : decode w with
  | ok i =>
    obtain ⟨hrsv, h1, h9⟩ := (legalWordsAreNineOpcodes w).mp ⟨i, hdec⟩
    rcases hillegal with hne | h0 | hgt
    · exact absurd hrsv hne
    · omega
    · omega
  | error e =>
    rw [step_offers hcfg hst hw, accept_of_error hdec]
    rfl

/-- Settles O12: a cycle in DONE is `finish`, whatever its sample offers. -/
theorem doneLastsOneCycle : Obligations.DoneLastsOneCycle := by
  intro s hcfg hst hrst
  obtain ⟨-, -, hvalid, hstatus, hdata, -⟩ := controlOutputs s
  exact ⟨hvalid.mpr hst, hstatus, hdata, step_done hcfg hst hrst⟩

end Sys2Proof.Machine
end

section
/-! PROOF. The words of an assembler line (30_encoding.md R58, R59). -/

namespace Sys2Proof

/-! ### Operands: an integer in the range of its field is read back from it -/

/-- The field `v` read as an unsigned integer is `x` (R52). -/
def ReadsUnsigned {n : Nat} (x : Int) (v : BitVec n) : Prop := (v.toNat : Int) = x

/-- The field `v` read as a two's-complement integer is `x` (R52). -/
def ReadsSigned {n : Nat} (x : Int) (v : BitVec n) : Prop := v.toInt = x

theorem readsUnsigned_of_fitsF16 {x : Int} (h : FitsF16 x) : ReadsUnsigned x (BitVec.ofInt 16 x) := by
  obtain ⟨h0, hmax⟩ := h
  rw [ReadsUnsigned, BitVec.toNat_ofInt]
  omega

theorem readsUnsigned_of_fitsU32 {x : Int} (h : FitsU32 x) : ReadsUnsigned x (BitVec.ofInt 32 x) := by
  obtain ⟨h0, hmax⟩ := h
  rw [ReadsUnsigned, BitVec.toNat_ofInt]
  omega

theorem readsSigned_of_fitsS32 {x : Int} (h : FitsS32 x) : ReadsSigned x (BitVec.ofInt 32 x) :=
  Machine.s32_wrap32 h.1 (Int.lt_of_le_sub_one h.2)

/-! ### `assemble` -/

theorem assemble_of_wellFormed {l : AsmLine} (h : l.wellFormed = true) :
    assemble l = some (l.instrs.map encode) := if_pos h

theorem assemble_of_not_wellFormed {l : AsmLine} (h : l.wellFormed = false) : assemble l = none :=
  if_neg (by simp [h])

/-- A line of one command assembles to one word, of which `P` and `Q` say what F16 and F32 hold. -/
theorem assemble_single (l : AsmLine) {i : Instr} (P : Idx → Prop) (Q : BitVec 32 → Prop)
    (hl : l.wellFormed = true) (hi : l.instrs = [i]) (hP : P (f16Of i)) (hQ : Q (f32Of i)) :
    ∃ w, assemble l = some [w] ∧ opField w = opcodeOf i ∧ rsvField w = 0#8 ∧ P (f16Field w) ∧ Q (f32Field w) := by
  refine ⟨encode i, ?_, opField_encode i, rsvField_encode i, ?_, ?_⟩
  · rw [assemble_of_wellFormed hl, hi, List.map_singleton]
  · rwa [f16Field_encode]
  · rwa [f32Field_encode]

/-- Settles O5: each one-command line by the range of its operands; of any line the words are those of its
commands, which decode back (O1). -/
theorem assembledLinesDecode : Obligations.AssembledLinesDecode := by
  refine ⟨fun idx delta => ⟨fun h => ?_, fun h => ?_⟩, fun x => ⟨fun h => ?_, fun h => ?_⟩,
    fun x => ⟨fun h => ?_, fun h => ?_⟩, ?_, ?_, fun l => ⟨fun h => ?_, assemble_of_not_wellFormed⟩⟩
  · have hidx : FitsF16 idx := by omega
    have hdelta : FitsS32 delta := by omega
    have hfit : (decide (FitsF16 idx) && decide (FitsS32 delta)) = true :=
      Bool.and_eq_true_iff.mpr ⟨decide_eq_true hidx, decide_eq_true hdelta⟩
    have h16 := readsUnsigned_of_fitsF16 hidx
    have h32 := readsSigned_of_fitsS32 hdelta
    exact ⟨assemble_single (.moveOne ..) (ReadsUnsigned idx) (ReadsSigned delta) hfit rfl h16 h32,
      assemble_single (.writeDelta ..) (ReadsUnsigned idx) (ReadsSigned delta) hfit rfl h16 h32⟩
  · have hfit : (decide (FitsF16 idx) && decide (FitsS32 delta)) = false := by
      rw [← Bool.decide_and, decide_eq_false_iff_not]
      omega
    exact ⟨assemble_of_not_wellFormed hfit, assemble_of_not_wellFormed hfit⟩
  · have hfit : decide (FitsF16 x) = true := decide_eq_true h
    have h16 := readsUnsigned_of_fitsF16 h
    exact ⟨assemble_single (.moveMany x) (ReadsUnsigned x) (· = 0#32) hfit rfl h16 rfl,
      assemble_single (.resize x) (ReadsUnsigned x) (· = 0#32) hfit rfl h16 rfl,
      assemble_single (.readPos x) (ReadsUnsigned x) (· = 0#32) hfit rfl h16 rfl⟩
  · have hfit : decide (FitsF16 x) = false := decide_eq_false (by omega)
    exact ⟨assemble_of_not_wellFormed hfit, assemble_of_not_wellFormed hfit, assemble_of_not_wellFormed hfit⟩
  · have hfit : decide (FitsU32 x) = true := decide_eq_true (by omega)
    have h32 := readsUnsigned_of_fitsU32 (x := x) (by omega)
    exact ⟨assemble_single (.setSpeedRpm x) (· = 0#16) (ReadsUnsigned x) hfit rfl rfl h32,
      assemble_single (.setSpeedRad x) (· = 0#16) (ReadsUnsigned x) hfit rfl rfl h32⟩
  · have hfit : decide (FitsU32 x) = false := decide_eq_false (by omega)
    exact ⟨assemble_of_not_wellFormed hfit, assemble_of_not_wellFormed hfit⟩
  · exact assemble_single .home (· = 0#16) (· = 0#32) rfl rfl rfl rfl
  · exact assemble_single .getMotorCount (· = 0#16) (· = 0#32) rfl rfl rfl rfl
  · refine ⟨_, assemble_of_wellFormed h, ?_⟩
    rw [List.map_map]
    exact List.map_congr_left fun i _ => decodeOfEncode i

/-! ### MOVE_MANY_V -/

/-- The WRITE_DELTAs of MOVE_MANY_V (R59). -/
def expandedWrites (ds : List Int) : List Instr :=
  ds.zipIdx.map fun p => .writeDelta (BitVec.ofNat 16 p.2) (BitVec.ofInt 32 p.1)

theorem instrs_moveManyV (ds : List Int) :
    (AsmLine.moveManyV ds).instrs = expandedWrites ds ++ [.moveMany (BitVec.ofNat 16 ds.length)] := rfl

theorem length_expandedWrites (ds : List Int) : (expandedWrites ds).length = ds.length := by
  simp [expandedWrites]

theorem expandedWrites_getElem? (ds : List Int) (k : Nat) :
    (expandedWrites ds)[k]? = ds[k]?.map fun d => .writeDelta (BitVec.ofNat 16 k) (BitVec.ofInt 32 d) := by
  simp [expandedWrites, List.getElem?_zipIdx, Function.comp_def]

theorem wellFormed_moveManyV {ds : List Int} :
    (AsmLine.moveManyV ds).wellFormed = true ↔ ds.length ≤ 65535 ∧ ∀ d ∈ ds, FitsS32 d := by
  rw [AsmLine.wellFormed, Bool.and_eq_true_iff, decide_eq_true_iff, List.all_eq_true]
  simp only [decide_eq_true_iff]

theorem toNat_ofNat_of_le {k : Nat} (h : k ≤ 65535) : (BitVec.ofNat 16 k).toNat = k := by
  rw [BitVec.toNat_ofNat]
  omega

/-- Settles O6: word `k` of the expansion is that of the `k`-th WRITE_DELTA, whose operands fit their fields. -/
theorem moveManyVExpandsInOrder : Obligations.MoveManyVExpandsInOrder := by
  intro ds
  constructor
  · intro hds hlen
    have hfit : ∀ d ∈ ds, FitsS32 d := fun d hd => by have := hds d hd; omega
    refine ⟨(expandedWrites ds).map encode, encode (.moveMany (BitVec.ofNat 16 ds.length)), ?_, ?_, ?_,
      opField_encode _, rsvField_encode _, ?_, f32Field_encode _⟩
    · rw [assemble_of_wellFormed (wellFormed_moveManyV.mpr ⟨hlen, hfit⟩), instrs_moveManyV, List.map_append,
        List.map_singleton]
    · rw [List.length_map, length_expandedWrites]
    · intro k v hv
      rw [List.getElem?_map, expandedWrites_getElem?, Option.map_map] at hv
      obtain ⟨d, hd, rfl⟩ := Option.map_eq_some_iff.mp hv
      obtain ⟨hk, hget⟩ := List.getElem?_eq_some_iff.mp hd
      have hmem : d ∈ ds := hget ▸ List.getElem_mem hk
      refine ⟨opField_encode _, rsvField_encode _, ?_, ?_⟩
      · exact (congrArg BitVec.toNat (f16Field_encode _)).trans (toNat_ofNat_of_le (by omega))
      · rw [hd, Function.comp_apply, f32Field_encode]
        exact congrArg some (readsSigned_of_fitsS32 (hfit d hmem)).symm
    · rw [f16Field_encode]
      exact toNat_ofNat_of_le hlen
  · intro hout
    refine assemble_of_not_wellFormed (Bool.eq_false_iff.mpr fun hwf => ?_)
    obtain ⟨hlen, hfit⟩ := wellFormed_moveManyV.mp hwf
    rcases hout with ⟨d, hd, hrange⟩ | hlong
    · have := hfit d hd
      omega
    · omega

/-- Settles O7: closed lines of source text, each read and assembled by evaluation. -/
theorem specLinesAssemble : Obligations.SpecLinesAssemble := by
  unfold Obligations.SpecLinesAssemble
  decide

end Sys2Proof
end

section
/-! PROOF. MOVE_MANY_V at run time (30_encoding.md R59, 44_motion.md R102): its WRITE_DELTAs, one after another. -/

namespace Sys2Proof.Machine

/-- The samples of one WRITE_DELTA `p.2`, `p.1`: its acceptance cycle, then DONE with no word offered. -/
def writeSamples (now : Time) (p : Counter × Nat) : List Input :=
  [⟨false, now, true, encode (.writeDelta (BitVec.ofNat 16 p.2) p.1)⟩, ⟨false, now, false, 0#64⟩]

/-- `s` once WRITE_DELTAs that succeeded have left `dbuf` in DBUF and the samples `rest` (R102). -/
def State.afterWrites (s : State) (dbuf : List Counter) (rest : List Input) : State :=
  { s with dbuf := dbuf, respStatus := 0#4, respData := 0#32, inputs := rest }

@[simp] theorem State.afterWrites_dbuf (s : State) (dbuf : List Counter) (rest : List Input) :
    (s.afterWrites dbuf rest).dbuf = dbuf := rfl

@[simp] theorem State.afterWrites_afterWrites (s : State) (dbuf dbuf' : List Counter) (rest rest' : List Input) :
    (s.afterWrites dbuf rest).afterWrites dbuf' rest' = s.afterWrites dbuf' rest' := rfl

theorem execWriteDelta_of_lt {idx : Idx} {s : State} (delta : Counter) (hidx : s.motorInRange idx)
    (hlen : idx.toNat < s.dbuf.length) :
    execWriteDelta idx delta s = .next ((s.setDbuf idx delta).respond .ok 0#32) := by
  rw [execWriteDelta, if_pos hidx, withEntry_of_lt _ hlen]

/-- A command that responds in its acceptance cycle takes two cycles (R50, R56). -/
theorem stepsTo_respond {s u : State} {e : Status} {d : Word} (h : step s = .next (u.respond e d))
    (hcfg : u.cfg.WellFormed) (hrst : u.nextInput.rst = false) :
    stepsTo 2 s = .next (u.respond e d).dropInput.finish := by
  rw [stepsTo_succ 1 h]
  exact stepsTo_one (step_done hcfg rfl hrst)

/-- A WRITE_DELTA in range takes two cycles and changes one entry of DBUF and the response (R56, R102). -/
theorem stepsTo_writeDelta {s : State} {d : Counter} {k : Nat} {now : Time} {rest : List Input}
    (hcfg : s.cfg.WellFormed) (hst : s.st = .idle) (hk : k < s.n.toNat) (hlen : s.n.toNat ≤ s.dbuf.length)
    (hin : s.inputs = writeSamples now (d, k) ++ rest) :
    stepsTo 2 s = .next (s.afterWrites (s.dbuf.set k d) rest) := by
  have hidx : (BitVec.ofNat 16 k).toNat = k := toNat_ofNat_of_le (by omega)
  have hoffers : s.Offers (encode (.writeDelta (BitVec.ofNat 16 k) d)) := by
    rw [State.Offers, nextInput_of_cons hin]
    exact ⟨rfl, rfl, rfl⟩
  have hwrite : step s = .next ((s.dropInput.setDbuf (BitVec.ofNat 16 k) d).respond .ok 0#32) := by
    rw [step_offers hcfg hst hoffers, accept_of_ok (decodeOfEncode _)]
    exact execWriteDelta_of_lt d (by simpa [hidx] using hk) (by rw [hidx, State.dropInput_dbuf]; omega)
  rw [dropInput_of_cons hin] at hwrite
  rw [stepsTo_respond hwrite hcfg rfl]
  simp [State.dropInput, State.setDbuf, State.respond, State.finish, State.goto, State.afterWrites, statusCode,
    hidx, hst]

/-- Entry `j` is set, then the entries from `j + 1` on are overwritten. -/
theorem overwrite_set {α : Type} {xs : List α} {j : Nat} (hj : j < xs.length) (y : α) (ys : List α) :
    (xs.set j y).take (j + 1) ++ ys ++ (xs.set j y).drop (j + 1 + ys.length) =
      xs.take j ++ y :: ys ++ xs.drop (j + (ys.length + 1)) := by
  have htake : (xs.set j y).take (j + 1) = xs.take j ++ [y] := by
    rw [List.take_add_one, List.take_set_of_le (Nat.le_refl j), List.getElem?_set_self hj]
    rfl
  rw [htake, List.drop_set_of_lt (by omega), Nat.add_right_comm, Nat.add_assoc]
  simp

/-- The WRITE_DELTAs from index `j` on. With no delta the response is the one that stands. -/
theorem stepsTo_writeDeltas {now : Time} {rest : List Input} {ds : List Counter} {s : State} {j : Nat}
    (hcfg : s.cfg.WellFormed) (hst : s.st = .idle) (hlen : s.n.toNat ≤ s.dbuf.length)
    (hj : j + ds.length ≤ s.n.toNat) (hresp : ds = [] → s.respStatus = 0#4 ∧ s.respData = 0#32)
    (hin : s.inputs = (ds.zipIdx j).flatMap (writeSamples now) ++ rest) :
    stepsTo (2 * ds.length) s =
      .next (s.afterWrites (s.dbuf.take j ++ ds ++ s.dbuf.drop (j + ds.length)) rest) := by
  induction ds generalizing s j with
  | nil =>
    obtain ⟨hstatus, hdata⟩ := hresp rfl
    have hrest : s.inputs = rest := hin
    simp [State.afterWrites, ← hstatus, ← hdata, ← hrest]
  | cons d ds ih =>
    rw [List.length_cons] at hj
    rw [List.zipIdx_cons, List.flatMap_cons, List.append_assoc] at hin
    have hfirst := stepsTo_writeDelta hcfg hst (by omega) hlen hin
    have hothers := ih (s := s.afterWrites (s.dbuf.set j d) _) (j := j + 1) hcfg hst
      (hlen.trans_eq List.length_set.symm) (by rw [Nat.add_right_comm]; exact hj) (fun _ => ⟨rfl, rfl⟩) rfl
    rw [List.length_cons, Nat.mul_succ, Nat.add_comm, stepsTo_add _ hfirst, hothers,
      State.afterWrites_afterWrites, State.afterWrites_dbuf, overwrite_set (by omega)]

/-- Settles O8: the run of the WRITE_DELTAs from index 0 on. -/
theorem deltaBufferHoldsExpandedDeltas : Obligations.DeltaBufferHoldsExpandedDeltas := by
  intro s ds now rest hs hst hlen hne hin
  obtain ⟨hcfg, hshape, -, -⟩ := hs
  have hrun := stepsTo_writeDeltas (j := 0) hcfg hst (hshape.le_dbuf (Nat.le_refl _)) (by omega)
    (fun hnil => absurd hnil hne) hin
  rw [hrun, State.afterWrites]
  simp

end Sys2Proof.Machine
end

section
/-! PROOF. The phase function (40_phase_table.md R62 to R64). -/

namespace Sys2Proof.Machine

/-! ### The Euclidean remainder -/

theorem emod_cast (a : Int) {m : Nat} (hm : 1 ≤ m) : (emod a m : Int) = a % m :=
  Int.toNat_of_nonneg (Int.emod_nonneg a (by omega))

theorem emod_eq_emod_iff {a b : Int} {m : Nat} (hm : 1 ≤ m) : emod a m = emod b m ↔ (m : Int) ∣ a - b := by
  rw [← Nat.cast_inj (R := Int), emod_cast a hm, emod_cast b hm, Int.emod_eq_emod_iff_emod_sub_eq_zero,
    Int.dvd_iff_emod_eq_zero]

theorem emod_succ (a : Int) {m : Nat} (hm : 1 ≤ m) : (emod a m + 1) % m = emod (a + 1) m := by
  zify
  rw [emod_cast a hm, emod_cast _ hm, Int.emod_add_emod]

/-- Up to the largest CYCLE, the powers of two are the divisors of 2^32. -/
theorem dvd_two_pow_32_iff {m : Nat} (hm : m ≤ 256) : m ∣ 2 ^ 32 ↔ ∃ k : Nat, m = 2 ^ k := by
  constructor
  · intro h
    obtain ⟨k, -, hk⟩ := (Nat.dvd_prime_pow Nat.prime_two).mp h
    exact ⟨k, hk⟩
  · rintro ⟨k, rfl⟩
    have hk : k ≤ 8 := (Nat.pow_le_pow_iff_right (by decide : 1 < 2)).mp hm
    exact Nat.pow_dvd_pow 2 (by omega)

/-! ### The phase index -/

/-- Settles O42: the index is `emod p CYCLE`. -/
theorem phaseIndexAlwaysValid : Obligations.PhaseIndexAlwaysValid := by
  intro c p ⟨_, _, _, _, ⟨hcycle, _⟩, hlength⟩
  have hlt : emod (s32 p) c.cycle < c.cycle := emod_lt _ hcycle
  refine ⟨emod (s32 p) c.cycle, hlength ▸ hlt, hlt, ?_, List.getElem?_eq_getElem _⟩
  rw [emod_cast _ hcycle]
  exact Int.dvd_self_sub_emod

/-- Settles O43: congruent counters have the same index. -/
theorem phaseIsPeriodic : Obligations.PhaseIsPeriodic := by
  intro c p q ⟨_, _, _, _, ⟨hcycle, _⟩, _⟩ hdvd
  exact congrArg (rom c) ((emod_eq_emod_iff hcycle).mpr hdvd)

/-- Settles O44: a wrapped counter is 2^32 away from the mathematical value, so the index is that of the
mathematical value exactly if CYCLE divides 2^32. -/
theorem wrapKeepsPhaseExactlyForPowersOfTwo : Obligations.WrapKeepsPhaseExactlyForPowersOfTwo := by
  intro c ⟨_, _, _, _, ⟨hcycle, hcycle'⟩, _⟩
  have hpow := dvd_two_pow_32_iff hcycle'
  have hwrap : s32 (wrap32 ((2 ^ 31 - 1) + 1)) = -2 ^ 31 := by decide
  refine ⟨?_, ?_, hpow⟩
  · rw [hwrap, emod_succ _ hcycle, emod_eq_emod_iff hcycle, ← hpow, ← Int.natCast_dvd_natCast, ← dvd_neg]
    norm_num
  · rw [emod_eq_emod_iff hcycle, ← Int.natCast_dvd_natCast]
    norm_num

end Sys2Proof.Machine
end

section
/-! PROOF. Bits B..7 of the phase table show in no output (40_phase_table.md R65): a simulation between the machine
and the same machine with another table. -/

namespace Sys2Proof.Machine

/-! ### Tables and patterns that agree on the low bits -/

/-- `table` can stand in for the phase table of `c`: it has as many entries, equal in their low B bits. -/
structure TableAgrees (c : Config) (table : List Pattern) : Prop where
  length : table.length = c.phaseTable.length
  lowBits : ∀ j b : Nat, b < c.b → (table.getD j 0#8).getLsbD b = (c.phaseTable.getD j 0#8).getLsbD b

/-- No bit below `b` is set. -/
def HighBitsOnly (b : Nat) (diff : Pattern) : Prop := ∀ k < b, diff.getLsbD k = false

theorem highBitsOnly_zero (b : Nat) : HighBitsOnly b 0#8 := fun _ _ => BitVec.getLsbD_zero

/-- Flipping high bits keeps the bits that are put on the data line. -/
theorem HighBitsOnly.getLsbD_xor {b k : Nat} {diff : Pattern} (h : HighBitsOnly b diff) (p : Pattern) (hk : k < b) :
    (p ^^^ diff).getLsbD k = p.getLsbD k := by
  rw [BitVec.getLsbD_xor, h k hk, Bool.xor_false]

/-- The entry that a counter selects in the other table differs in high bits only. -/
theorem phase_of_tableAgrees {c : Config} {table : List Pattern} (htable : TableAgrees c table) {p : Counter}
    {v : Pattern} (h : phase c p = some v) :
    ∃ diff, HighBitsOnly c.b diff ∧ phase { c with phaseTable := table } p = some (v ^^^ diff) := by
  obtain ⟨hlength, hbits⟩ := htable
  obtain ⟨hk, rfl⟩ := List.getElem?_eq_some_iff.mp h
  have hk' : emod (s32 p) c.cycle < table.length := hlength ▸ hk
  refine ⟨c.phaseTable[emod (s32 p) c.cycle] ^^^ table[emod (s32 p) c.cycle], fun b hb => ?_, ?_⟩
  · have hbit := hbits (emod (s32 p) c.cycle) b hb
    rw [List.getD_eq_getElem _ _ hk, List.getD_eq_getElem _ _ hk'] at hbit
    rw [BitVec.getLsbD_xor, hbit, Bool.xor_self]
  · rw [← BitVec.xor_assoc, BitVec.xor_self, BitVec.zero_xor]
    exact List.getElem?_eq_getElem hk'

/-! ### The state with another table -/

/-- `s` with the phase table `table`, and with the bits `diff` of the shift register flipped. -/
def State.retabled (s : State) (table : List Pattern) (diff : Pattern) : State :=
  { s with cfg := { s.cfg with phaseTable := table }, sr := s.sr ^^^ diff }

theorem retabled_zero (s : State) (table : List Pattern) :
    s.retabled table 0#8 = { s with cfg := { s.cfg with phaseTable := table } } := by
  simp [State.retabled]

theorem wellFormed_retabled {s : State} {table : List Pattern} (htable : TableAgrees s.cfg table)
    (h : s.cfg.WellFormed) (diff : Pattern) : (s.retabled table diff).cfg.WellFormed := by
  obtain ⟨hnmax, hinit, hspr, hb, hcycle, hlen⟩ := h
  exact ⟨hnmax, hinit, hspr, hb, hcycle, htable.length.trans hlen⟩

theorem dropInput_retabled (s : State) (table : List Pattern) (diff : Pattern) :
    (s.retabled table diff).dropInput = s.dropInput.retabled table diff := by
  unfold State.dropInput State.retabled
  cases s.inputs <;> rfl

/-- Reset clears the shift register, so no bit of it differs (R141). -/
theorem resetCycle_retabled (s : State) (now : Time) (table : List Pattern) (diff : Pattern) :
    (s.retabled table diff).resetCycle now = (s.resetCycle now).retabled table 0#8 := by
  rw [retabled_zero]
  rfl

/-- If `r` answers a next state, `r'` answers that state under the other table, up to high bits of the shift
register. -/
def RetabledFollows (table : List Pattern) (r r' : Result) : Prop :=
  ∀ t, r = .next t → ∃ diff, HighBitsOnly t.cfg.b diff ∧ r' = .next (t.retabled table diff)

section
variable {table : List Pattern}

theorem RetabledFollows.next {t : State} {diff : Pattern} (h : HighBitsOnly t.cfg.b diff) :
    RetabledFollows table (.next t) (.next (t.retabled table diff)) := by
  intro u hu
  cases hu
  exact ⟨diff, h, rfl⟩

theorem RetabledFollows.fault (e : Fault) (r : Result) : RetabledFollows table (.fault e) r := by
  intro t ht
  cases ht

theorem RetabledFollows.ite {c : Prop} [Decidable c] {a a' b b' : Result} (ha : RetabledFollows table a a')
    (hb : RetabledFollows table b b') : RetabledFollows table (if c then a else b) (if c then a' else b') := by
  by_cases h : c
  · rwa [if_pos h, if_pos h]
  · rwa [if_neg h, if_neg h]

theorem RetabledFollows.withEntry {xs : List Counter} {k : Idx} {f f' : Counter → Result}
    (h : ∀ v, RetabledFollows table (f v) (f' v)) :
    RetabledFollows table (withEntry xs k f) (withEntry xs k f') := by
  intro t ht
  obtain ⟨v, hv, ht⟩ := withEntry_next ht
  obtain ⟨diff, hdiff, ht'⟩ := h v t ht
  exact ⟨diff, hdiff, by simp [Machine.withEntry, hv, ht']⟩

/-! ### One cycle -/

variable {diff : Pattern} {s : State}

/-- No command reads the table or the shift register. -/
theorem exec_retabledFollows (hdiff : HighBitsOnly s.cfg.b diff) (i : Instr) :
    RetabledFollows table (exec i s) (exec i (s.retabled table diff)) := by
  cases i with
  | moveOne idx delta => exact .ite (.next hdiff) (.next hdiff)
  | moveMany len => exact .ite (.next hdiff) (.ite (.fault _ _) (.next hdiff))
  | home => exact .next hdiff
  | writeDelta idx delta => exact .ite (.withEntry fun _ => .next hdiff) (.next hdiff)
  | setSpeedRpm rpm => exact .ite (.next hdiff) (.next hdiff)
  | setSpeedRad rad => exact .ite (.next hdiff) (.next hdiff)
  | resize count => exact .ite (.next hdiff) (.next hdiff)
  | getMotorCount => exact .next hdiff
  | readPos idx => exact .ite (.withEntry fun _ => .next hdiff) (.next hdiff)

theorem idle_retabledFollows (hdiff : HighBitsOnly s.cfg.b diff) (x : Input) :
    RetabledFollows table (idle x s) (idle x (s.retabled table diff)) := by
  refine .ite ?_ (.next hdiff)
  unfold accept
  cases decode x.cmdWord with
  | ok i => exact exec_retabledFollows hdiff i
  | error => exact .next hdiff

theorem moStep_retabledFollows (hdiff : HighBitsOnly s.cfg.b diff) :
    RetabledFollows table (moStep s) (moStep (s.retabled table diff)) :=
  .ite (.next hdiff) (.withEntry fun _ => .next hdiff)

theorem updateMany_retabledFollows (hdiff : HighBitsOnly s.cfg.b diff) (k : Idx) :
    RetabledFollows table (updateMany k s) (updateMany k (s.retabled table diff)) :=
  .withEntry fun _ => .ite (.next hdiff) (.withEntry fun _ => .next hdiff)

theorem updateHome_retabledFollows (hdiff : HighBitsOnly s.cfg.b diff) (k : Idx) :
    RetabledFollows table (updateHome k s) (updateHome k (s.retabled table diff)) :=
  .withEntry fun _ => .ite (.next hdiff) (.next hdiff)

theorem mmPass_retabledFollows (hdiff : HighBitsOnly s.cfg.b diff) :
    RetabledFollows table (mmPass s) (mmPass (s.retabled table diff)) := by
  by_cases hlt : s.i.toNat < s.m.toNat
  · cases hmode : s.mode with
    | many =>
      rw [mmPass_many hlt hmode, mmPass_many (s := s.retabled table diff) hlt hmode]
      exact updateMany_retabledFollows (s := { s with i := s.i + 1#16 }) hdiff s.i
    | home =>
      rw [mmPass_home hlt hmode, mmPass_home (s := s.retabled table diff) hlt hmode]
      exact updateHome_retabledFollows (s := { s with i := s.i + 1#16 }) hdiff s.i
  · rw [mmPass_frame hlt, mmPass_frame (s := s.retabled table diff) hlt]
    exact .next hdiff

/-- LOAD shifts in an entry whose high bits may differ (R78). -/
theorem load_retabledFollows (htable : TableAgrees s.cfg table) :
    RetabledFollows table (load s) (load (s.retabled table diff)) := by
  intro t ht
  obtain ⟨p, v, hp, hv, rfl⟩ := load_next ht
  obtain ⟨diff', hdiff', hv'⟩ := phase_of_tableAgrees htable hv
  exact ⟨diff', hdiff', by simp [load, withEntry, State.retabled, hp, hv']⟩

/-- DATA_SET puts out a bit below B, and that one does not differ (R70). -/
theorem dataSet_retabledFollows (hdiff : HighBitsOnly s.cfg.b diff) (hbi : s.bi.toNat < s.cfg.b) :
    RetabledFollows table (dataSet s) (dataSet (s.retabled table diff)) := by
  have hbit : (s.retabled table diff).sr.getLsbD s.bi.toNat = s.sr.getLsbD s.bi.toNat := hdiff.getLsbD_xor _ hbi
  unfold dataSet
  rw [show (s.retabled table diff).bi = s.bi from rfl, hbit]
  exact .next hdiff

/-- One cycle, whatever the input: only LOAD reads the table, only DATA_SET the shift register. -/
theorem cycle_retabledFollows (x : Input) (hs : s.Inv) (htable : TableAgrees s.cfg table)
    (hdiff : HighBitsOnly s.cfg.b diff) : RetabledFollows table (cycle x s) (cycle x (s.retabled table diff)) := by
  obtain ⟨-, -, -, hindices⟩ := hs
  cases hrst : x.rst with
  | true =>
    rw [cycle_reset hrst, cycle_reset hrst, resetCycle_retabled]
    exact .next (highBitsOnly_zero _)
  | false =>
    have hst' : (s.retabled table diff).st = s.st := rfl
    cases hst : s.st <;> rw [hst] at hst'
    case idle => rw [cycle_idle hrst hst, cycle_idle hrst hst']; exact idle_retabledFollows hdiff x
    case done => rw [cycle_done hrst hst, cycle_done hrst hst']; exact .next hdiff
    case moStep => rw [cycle_moStep hrst hst, cycle_moStep hrst hst']; exact moStep_retabledFollows hdiff
    case mmPass => rw [cycle_mmPass hrst hst, cycle_mmPass hrst hst']; exact mmPass_retabledFollows hdiff
    case mmCheck => rw [cycle_mmCheck hrst hst, cycle_mmCheck hrst hst']; exact .ite (.next hdiff) (.next hdiff)
    case gate => rw [cycle_gate hrst hst, cycle_gate hrst hst']; exact .ite (.next hdiff) (.next hdiff)
    case latchLo => rw [cycle_latchLo hrst hst, cycle_latchLo hrst hst']; exact .next hdiff
    case load => rw [cycle_load hrst hst, cycle_load hrst hst']; exact load_retabledFollows htable
    case clkLo => rw [cycle_clkLo hrst hst, cycle_clkLo hrst hst']; exact .next hdiff
    case dataSet =>
      obtain ⟨-, -, hbi⟩ := (indicesOk_bit (.inr (.inl hst))).mp hindices
      rw [cycle_dataSet hrst hst, cycle_dataSet hrst hst']
      exact dataSet_retabledFollows hdiff hbi
    case clkHi =>
      rw [cycle_clkHi hrst hst, cycle_clkHi hrst hst']
      exact .ite (.next hdiff) (.ite (.next hdiff) (.next hdiff))
    case latchHi => rw [cycle_latchHi hrst hst, cycle_latchHi hrst hst']; exact .next hdiff
    case latchEnd => rw [cycle_latchEnd hrst hst, cycle_latchEnd hrst hst']; exact .next hdiff

/-! ### Runs -/

theorem step_retabledFollows (hs : s.Inv) (htable : TableAgrees s.cfg table) (hdiff : HighBitsOnly s.cfg.b diff) :
    RetabledFollows table (step s) (step (s.retabled table diff)) := by
  have hcfg : s.cfg.WellFormed := hs.1
  rw [step_eq_cycle hcfg, step_eq_cycle (wellFormed_retabled htable hcfg diff), dropInput_retabled]
  rw [← State.dropInput_cfg] at htable hdiff
  exact cycle_retabledFollows s.nextInput (dropInput_inv hs) htable hdiff

/-- Runs of the two machines stay alike: the invariant and the configuration are kept by every step. -/
theorem stepsTo_retabledFollows (k : Nat) (hs : s.Inv) (htable : TableAgrees s.cfg table)
    (hdiff : HighBitsOnly s.cfg.b diff) : RetabledFollows table (stepsTo k s) (stepsTo k (s.retabled table diff)) := by
  induction k generalizing s diff with
  | zero => exact .next hdiff
  | succ k ih =>
    intro u hu
    obtain ⟨t, ht, hu⟩ := stepsTo_succ_next hu
    obtain ⟨diff', hdiff', ht'⟩ := step_retabledFollows hs htable hdiff t ht
    rw [stepsTo_succ k ht']
    exact ih (stepKeepsInvariant s t hs ht) (configurationNeverWritten s t ht ▸ htable) hdiff' u hu

end

/-- Settles O48: from equal shift registers on, the run under the other table differs from the given one in the
table and in high bits of the shift register only, which no output shows. -/
theorem highPatternBitsNeverShow : Obligations.HighPatternBitsNeverShow := by
  intro s u table k hs _ hlength hbits hrun
  obtain ⟨diff, -, hrun'⟩ := stepsTo_retabledFollows k hs ⟨hlength, hbits⟩ (highBitsOnly_zero _) u hrun
  exact ⟨u.retabled table diff, retabled_zero s table ▸ hrun', rfl, rfl, rfl, rfl, rfl, rfl⟩

end Sys2Proof.Machine
end

section
/-! PROOF. The serializer (41_serializer.md): the steps of CLK_LO, DATA_SET and CLK_HI. -/

namespace Sys2Proof.Machine

/-! ### Driving one pin leaves the other two at their level -/

theorem drivePin_clk_eq (s : State) (v : Bool) :
    s.drivePin .clk v = { s with clkQ := v, pinTrace := s.pinTrace ++ [⟨.clk, v⟩] } := by
  simp [State.drivePin]

theorem drivePin_data_eq (s : State) (v : Bool) :
    s.drivePin .data v = { s with dataQ := v, pinTrace := s.pinTrace ++ [⟨.data, v⟩] } := by
  simp [State.drivePin]

/-! ### CLK_HI, by what is left to shift (R71) -/

theorem clkHi_of_nextBit {s : State} (hlt : s.bi.toNat + 1 < s.cfg.b) :
    clkHi s = .next { s.drivePin .clk true with bi := s.bi + 1#3, st := .clkLo } :=
  if_pos hlt

theorem clkHi_of_nextMotor {s : State} (hlast : s.cfg.b ≤ s.bi.toNat + 1) (hfi : s.fi ≠ 0#16) :
    clkHi s = .next { s.drivePin .clk true with fi := s.fi - 1#16, st := .load } := by
  rw [clkHi, if_neg (Nat.not_lt.mpr hlast), if_pos hfi]

theorem clkHi_of_lastMotor {s : State} (hlast : s.cfg.b ≤ s.bi.toNat + 1) (hfi : s.fi = 0#16) :
    clkHi s = .next ((s.drivePin .clk true).goto .latchHi) := by
  rw [clkHi, if_neg (Nat.not_lt.mpr hlast), if_neg (not_not.mpr hfi)]

/-! ### Steps of the serializer -/

section
variable {s : State} (hcfg : s.cfg.WellFormed) (hrst : s.nextInput.rst = false)
include hcfg hrst

theorem step_clkLo (hst : s.st = .clkLo) : step s = clkLo s.dropInput := by
  rw [step_eq_cycle hcfg, cycle_clkLo hrst (by simpa using hst)]

theorem step_dataSet (hst : s.st = .dataSet) : step s = dataSet s.dropInput := by
  rw [step_eq_cycle hcfg, cycle_dataSet hrst (by simpa using hst)]

theorem step_clkHi (hst : s.st = .clkHi) : step s = clkHi s.dropInput := by
  rw [step_eq_cycle hcfg, cycle_clkHi hrst (by simpa using hst)]

end

/-- Settles O40: each state's step is its rule, on the state whose input sample is taken. That the bit is not the
last one is `BI < B - 1` in the statement and `BI + 1 < B` in the rule. -/
theorem serializerRules : Obligations.SerializerRules := by
  intro s hcfg hrst
  refine ⟨fun hst => ?clkLo, fun hst => ?dataSet, fun hst hlt => ?nextBit, fun hst hle hfi => ?nextMotor,
    fun hst hle hfi => ?lastMotor⟩
  case clkLo =>
    rw [step_clkLo hcfg hrst hst, clkLo, drivePin_clk_eq]
    simp [State.goto]
  case dataSet =>
    rw [step_dataSet hcfg hrst hst, dataSet, drivePin_data_eq]
    simp [State.goto]
  case nextBit =>
    have hnext : s.dropInput.bi.toNat + 1 < s.dropInput.cfg.b := by simpa using Nat.add_lt_of_lt_sub hlt
    rw [step_clkHi hcfg hrst hst, clkHi_of_nextBit hnext, drivePin_clk_eq]
    simp
  case nextMotor =>
    have hlast : s.dropInput.cfg.b ≤ s.dropInput.bi.toNat + 1 := by simpa using Nat.le_add_of_sub_le hle
    have hne : s.dropInput.fi ≠ 0#16 := by simpa using ne_of_apply_ne BitVec.toNat hfi.ne'
    rw [step_clkHi hcfg hrst hst, clkHi_of_nextMotor hlast hne, drivePin_clk_eq]
    simp
  case lastMotor =>
    have hlast : s.dropInput.cfg.b ≤ s.dropInput.bi.toNat + 1 := by simpa using Nat.le_add_of_sub_le hle
    have hzero : s.dropInput.fi = 0#16 := by simpa using BitVec.eq_of_toNat_eq hfi
    rw [step_clkHi hcfg hrst hst, clkHi_of_lastMotor hlast hzero, drivePin_clk_eq]
    simp [State.goto]

end Sys2Proof.Machine
end

section
/-! PROOF. The frame transmitter (42_frame.md): its event list, the steps of its states, and a whole frame. -/

namespace Sys2Proof.Machine

/-! ### The event list of a frame (R76) -/

/-- The events of bit `k` of a pattern (R66). -/
def bitPins (p : Pattern) (k : Nat) : List PinEvent := [⟨.clk, false⟩, ⟨.data, p.getLsbD k⟩, ⟨.clk, true⟩]

theorem serializePins_eq_range' (p : Pattern) (b : Nat) :
    serializePins p b = (List.range' 0 b).flatMap (bitPins p) := by
  rw [← List.range_eq_range']
  rfl

theorem serializePins_succ (p : Pattern) (b : Nat) : serializePins p (b + 1) = serializePins p b ++ bitPins p b := by
  simp [serializePins, bitPins, List.range_succ]

/-- The highest motor is shifted first. -/
theorem motorsPins_succ (c : Config) (pos : List Counter) (count : Nat) :
    motorsPins c pos (count + 1) = serializePins (patternOf c pos count) c.b ++ motorsPins c pos count := by
  simp [motorsPins, List.range_succ]

/-- The last events of the motors are those of the last bit of motor 0. -/
theorem motorsPins_ends_with_bit (c : Config) (pos : List Counter) {count : Nat} (hcount : 1 ≤ count)
    (hb : 1 ≤ c.b) : ∃ es, motorsPins c pos count = es ++ bitPins (patternOf c pos 0) (c.b - 1) := by
  induction count, hcount using Nat.le_induction with
  | base =>
    obtain ⟨b, hb⟩ := Nat.exists_eq_add_of_le' hb
    exact ⟨serializePins (patternOf c pos 0) b, by simp [motorsPins, hb, serializePins_succ]⟩
  | succ count _ ih =>
    obtain ⟨es, hes⟩ := ih
    exact ⟨_, by rw [motorsPins_succ, hes, ← List.append_assoc]⟩

theorem length_serializePins (p : Pattern) (b : Nat) : (serializePins p b).length = 3 * b := by
  induction b with
  | zero => rfl
  | succ b ih => rw [serializePins_succ, List.length_append, ih]; rfl

theorem length_motorsPins (c : Config) (pos : List Counter) (count : Nat) :
    (motorsPins c pos count).length = 3 * count * c.b := by
  induction count with
  | zero => simp [motorsPins]
  | succ count ih => rw [motorsPins_succ, List.length_append, length_serializePins, ih]; ring

/-- Shifting drives the clock and the data line only (R66). -/
theorem pin_ne_latch_of_mem_motorsPins {c : Config} {pos : List Counter} {count : Nat} {e : PinEvent}
    (he : e ∈ motorsPins c pos count) : e.pin ≠ .latch := by
  simp only [motorsPins, serializePins, List.mem_flatMap, List.mem_cons, List.not_mem_nil, or_false] at he
  obtain ⟨_, _, _, _, rfl | rfl | rfl⟩ := he <;> exact nofun

/-- Settles O47: the motors' events are 3 for each bit and none of the latch, so the latch rises at the end only. -/
theorem frameHasOneLatchPulse : Obligations.FrameHasOneLatchPulse := by
  intro c n a pos _
  have hlen := length_motorsPins c pos (activeCount c a n).toNat
  have hlatch : (motorsPins c pos (activeCount c a n).toNat).count ⟨.latch, true⟩ = 0 :=
    List.count_eq_zero.mpr fun hmem => pin_ne_latch_of_mem_motorsPins hmem rfl
  refine ⟨?_, ?_, List.drop_left' (by rw [List.length_cons, hlen, Nat.add_comm])⟩
  · simp only [framePins, List.length_append, List.length_cons, hlen, List.length_nil]
    omega
  · simp [framePins, hlatch]

/-! ### Steps of the frame transmitter -/

theorem drivePin_latch_eq (s : State) (v : Bool) :
    s.drivePin .latch v = { s with latchQ := v, pinTrace := s.pinTrace ++ [⟨.latch, v⟩] } := by
  simp [State.drivePin]

/-- LOAD of a counter whose phase index selects pattern `v` (R78). -/
theorem load_of_phase {s : State} {p : Counter} {v : Pattern} (hp : s.pos[s.fi.toNat]? = some p)
    (hv : phase s.cfg p = some v) : load s = .next { s with sr := v, bi := 0#3, st := .clkLo } := by
  simp [load, withEntry, hp, hv]

/-- A well-formed table has a pattern for every motor that has a counter. -/
theorem load_of_lt {s : State} (hcfg : s.cfg.WellFormed) (hfi : s.fi.toNat < s.pos.length) :
    load s = .next { s with sr := patternOf s.cfg s.pos s.fi.toNat, bi := 0#3, st := .clkLo } := by
  have hp := List.getElem?_eq_getElem hfi
  obtain ⟨v, hv⟩ := phase_some hcfg s.pos[s.fi.toNat]
  have hpattern : patternOf s.cfg s.pos s.fi.toNat = v := by simp [patternOf, hp, hv]
  rw [load_of_phase hp hv, hpattern]

theorem activeCount_eq (c : Config) (a n : Idx) :
    activeCount c a n = if c.alwaysFullFrame = true ∨ a.toNat = 0 ∨ n.toNat < a.toNat then n else a := by
  simp [activeCount, ← BitVec.toNat_inj]

section
variable {s : State} (hcfg : s.cfg.WellFormed) (hrst : s.nextInput.rst = false)
include hcfg hrst

theorem step_latchLo (hst : s.st = .latchLo) : step s = latchLo s.dropInput := by
  rw [step_eq_cycle hcfg, cycle_latchLo hrst (by simpa using hst)]

theorem step_load (hst : s.st = .load) : step s = load s.dropInput := by
  rw [step_eq_cycle hcfg, cycle_load hrst (by simpa using hst)]

theorem step_latchHi (hst : s.st = .latchHi) : step s = latchHi s.dropInput := by
  rw [step_eq_cycle hcfg, cycle_latchHi hrst (by simpa using hst)]

theorem step_latchEnd (hst : s.st = .latchEnd) : step s = latchEnd s.dropInput := by
  rw [step_eq_cycle hcfg, cycle_latchEnd hrst (by simpa using hst)]

end

/-- Settles O41: each state's step is its rule, on the state whose input sample is taken. -/
theorem frameStateRules : Obligations.FrameStateRules := by
  intro s hcfg hrst
  refine ⟨fun hst => ?latchLo, fun hst p v hp hv => ?load, fun hst => ?latchHi, fun hst => ?latchEnd⟩
  case latchLo =>
    rw [step_latchLo hcfg hrst hst, latchLo, drivePin_latch_eq, activeCount_eq]
    simp
  case load =>
    have hphase : phase s.cfg p = some v := hv
    rw [step_load hcfg hrst hst, load_of_phase (by simpa using hp) (by simpa using hphase)]
  case latchHi =>
    rw [step_latchHi hcfg hrst hst, latchHi, drivePin_latch_eq]
    simp [State.goto]
  case latchEnd =>
    rw [step_latchEnd hcfg hrst hst, latchEnd, drivePin_latch_eq]
    cases hret : s.ret <;> simp [State.goto, retState, hret]

end Sys2Proof.Machine
end

section
/-! PROOF. A whole frame (42_frame.md R76, R82): what a run of its cycles puts on the pins. -/

namespace Sys2Proof.Machine

/-! ### Cycles that drive pins -/

/-- The level of pin `p`, at `v` before, after the events `es`. -/
def levelFrom (p : Pin) (v : Bool) (es : List PinEvent) : Bool :=
  es.foldl (fun v e => if e.pin = p then e.level else v) v

theorem levelFrom_append (p : Pin) (v : Bool) (es fs : List PinEvent) :
    levelFrom p v (es ++ fs) = levelFrom p (levelFrom p v es) fs := List.foldl_append

/-- `s` after `k` cycles with a listed sample that put the events `es` on the pins. -/
def State.transmit (s : State) (k : Nat) (es : List PinEvent) : State :=
  { s with
    dataQ := levelFrom .data s.dataQ es
    clkQ := levelFrom .clk s.clkQ es
    latchQ := levelFrom .latch s.latchQ es
    pinTrace := s.pinTrace ++ es
    inputs := s.inputs.drop k }

theorem transmit_transmit (s : State) (j k : Nat) (es fs : List PinEvent) :
    (s.transmit j es).transmit k fs = s.transmit (j + k) (es ++ fs) := by
  simp [State.transmit, levelFrom_append]

/-- `State.transmit` extends `State.drivePin` to a list of events. -/
theorem drivePin_transmit (s : State) (k : Nat) (es : List PinEvent) (p : Pin) (v : Bool) :
    (s.transmit k es).drivePin p v = s.transmit k (es ++ [⟨p, v⟩]) := by
  simp [State.transmit, State.drivePin, levelFrom]

@[simp] theorem State.transmit_cfg (s : State) (k : Nat) (es : List PinEvent) : (s.transmit k es).cfg = s.cfg := rfl
@[simp] theorem State.transmit_pos (s : State) (k : Nat) (es : List PinEvent) : (s.transmit k es).pos = s.pos := rfl
@[simp] theorem State.transmit_ret (s : State) (k : Nat) (es : List PinEvent) : (s.transmit k es).ret = s.ret := rfl

theorem State.Quiet.transmit {s : State} {j k : Nat} (hq : s.Quiet (j + k)) (es : List PinEvent) :
    (s.transmit j es).Quiet k := hq.drop rfl

theorem stepsTo_trans {s t u : State} {j k : Nat} (h : stepsTo j s = .next t) (h' : stepsTo k t = .next u) :
    stepsTo (j + k) s = .next u := by
  rw [stepsTo_add k h, h']

/-! ### The registers of the shifting -/

/-- `s` in state `st` of a frame, with FI at motor `m`, BI at bit `k` and the pattern `p` in SR (R28). -/
def State.shifting (s : State) (st : Fsm) (m k : Nat) (p : Pattern) : State :=
  { s with st := st, fi := BitVec.ofNat 16 m, bi := BitVec.ofNat 3 k, sr := p }

theorem goto_shifting (s : State) (st st' : Fsm) (m k : Nat) (p : Pattern) :
    (s.shifting st m k p).goto st' = s.shifting st' m k p := rfl

theorem drivePin_transmit_shifting (s : State) (j : Nat) (es : List PinEvent) (st : Fsm) (m k : Nat) (p : Pattern)
    (pin : Pin) (v : Bool) : ((s.transmit j es).shifting st m k p).drivePin pin v =
      (s.transmit j (es ++ [⟨pin, v⟩])).shifting st m k p := by
  rw [← drivePin_transmit]
  rfl

theorem shifting_self (s : State) : s.shifting s.st s.fi.toNat s.bi.toNat s.sr = s := by
  simp [State.shifting]

/-- The index of a bit fits BI. -/
theorem toNat_bitIndex {c : Config} (hcfg : c.WellFormed) {k : Nat} (hk : k < c.b) : (BitVec.ofNat 3 k).toNat = k := by
  obtain ⟨-, -, -, ⟨-, hb⟩, -⟩ := hcfg
  exact Nat.mod_eq_of_lt (by omega)

/-- The index of a motor fits FI. -/
theorem toNat_motorIndex {c : Config} (hcfg : c.WellFormed) {m : Nat} (hm : m < c.nmax) :
    (BitVec.ofNat 16 m).toNat = m := by
  obtain ⟨⟨-, hmax⟩, -⟩ := hcfg
  exact toNat_ofNat_of_le (by omega)

/-- `s` once motor `m` is shifted: LOAD of the next motor down, or the end of shifting (R71). -/
def State.afterMotor (s : State) : Nat → Nat → Pattern → State
  | 0, k, p => s.shifting .latchHi 0 k p
  | m + 1, k, p => s.shifting .load m k p

section
variable {s : State} (hcfg : s.cfg.WellFormed)
include hcfg

/-! ### One cycle -/

/-- A quiet cycle is the state's rule once the listed sample is taken. -/
theorem stepsTo_one_of_cycle (hq : s.Quiet 1) {st : Fsm} {m k : Nat} {p : Pattern} {t : State}
    (hcycle : ∀ x : Input, x.rst = false → cycle x ((s.transmit 1 []).shifting st m k p) = .next t) :
    stepsTo 1 (s.shifting st m k p) = .next t := by
  obtain ⟨x, rest, hin, hrst, hstep, -⟩ := step_quiet (s := s.shifting st m k p) (k := 0) hcfg hq
  have hin : s.inputs = x :: rest := hin
  refine stepsTo_one ?_
  rw [hstep, ← hcycle x hrst]
  simp [State.transmit, State.shifting, levelFrom, hin]

/-- LATCH_LO goes to LOAD of the highest motor of the frame (R77). -/
theorem stepsTo_latchLo (hq : s.Quiet 1) (hst : s.st = .latchLo) {m : Nat}
    (hm : (activeCount s.cfg s.a s.n).toNat = m + 1) :
    stepsTo 1 s = .next ((s.transmit 1 [⟨.latch, false⟩]).shifting .load m s.bi.toNat s.sr) := by
  have hfi : activeCount s.cfg s.a s.n - 1#16 = BitVec.ofNat 16 m := by
    have ha : activeCount s.cfg s.a s.n = BitVec.ofNat 16 (m + 1) := by rw [← hm]; simp
    simp [ha, BitVec.ofNat_add]
  rw [← shifting_self s, hst]
  refine stepsTo_one_of_cycle hcfg hq fun x hrst => ?_
  rw [cycle_latchLo hrst rfl, latchLo, drivePin_transmit_shifting]
  simp [State.shifting, State.transmit, hfi]

/-- LOAD takes the pattern of motor `m` and begins at bit 0 (R78). -/
theorem stepsTo_load (hq : s.Quiet 1) (hlen : s.pos.length = s.cfg.nmax) {m : Nat} (hm : m < s.cfg.nmax) (k : Nat)
    (p : Pattern) : stepsTo 1 (s.shifting .load m k p) =
      .next ((s.transmit 1 []).shifting .clkLo m 0 (patternOf s.cfg s.pos m)) := by
  have hfi := toNat_motorIndex hcfg hm
  refine stepsTo_one_of_cycle hcfg hq fun x hrst => ?_
  have hlt : ((s.transmit 1 []).shifting .load m k p).fi.toNat < s.pos.length := by
    simp [State.shifting, hfi, hlen, hm]
  rw [cycle_load hrst rfl, load_of_lt (s := (s.transmit 1 []).shifting .load m k p) hcfg hlt]
  simp [State.shifting, hfi]

theorem stepsTo_clkLo (hq : s.Quiet 1) (m k : Nat) (p : Pattern) :
    stepsTo 1 (s.shifting .clkLo m k p) = .next ((s.transmit 1 [⟨.clk, false⟩]).shifting .dataSet m k p) := by
  refine stepsTo_one_of_cycle hcfg hq fun x hrst => ?_
  rw [cycle_clkLo hrst rfl, clkLo, drivePin_transmit_shifting, goto_shifting]
  rfl

theorem stepsTo_dataSet (hq : s.Quiet 1) (m : Nat) {k : Nat} (hk : k < s.cfg.b) (p : Pattern) :
    stepsTo 1 (s.shifting .dataSet m k p) =
      .next ((s.transmit 1 [⟨.data, p.getLsbD k⟩]).shifting .clkHi m k p) := by
  have hbi := toNat_bitIndex hcfg (k := k) (by omega)
  refine stepsTo_one_of_cycle hcfg hq fun x hrst => ?_
  rw [cycle_dataSet hrst rfl, dataSet, drivePin_transmit_shifting, goto_shifting]
  simp [State.shifting, hbi]

/-- CLK_HI before the last bit goes to CLK_LO of the next bit (R71). -/
theorem stepsTo_clkHi_nextBit (hq : s.Quiet 1) (m : Nat) {k : Nat} (hk : k + 1 < s.cfg.b) (p : Pattern) :
    stepsTo 1 (s.shifting .clkHi m k p) =
      .next ((s.transmit 1 [⟨.clk, true⟩]).shifting .clkLo m (k + 1) p) := by
  have hbi := toNat_bitIndex hcfg (k := k) (by omega)
  refine stepsTo_one_of_cycle hcfg hq fun x hrst => ?_
  rw [cycle_clkHi hrst rfl, clkHi_of_nextBit (by simpa [State.shifting, hbi] using hk), drivePin_transmit_shifting]
  simp [State.shifting, BitVec.ofNat_add]

/-- CLK_HI of the last bit ends the motor (R71). -/
theorem stepsTo_clkHi_lastBit (hq : s.Quiet 1) {m k : Nat} (hm : m < s.cfg.nmax) (hk : k + 1 = s.cfg.b)
    (p : Pattern) : stepsTo 1 (s.shifting .clkHi m k p) =
      .next ((s.transmit 1 [⟨.clk, true⟩]).afterMotor m k p) := by
  have hbi := toNat_bitIndex hcfg (k := k) (by omega)
  have hfi := toNat_motorIndex hcfg hm
  have hlast : s.cfg.b ≤ (BitVec.ofNat 3 k).toNat + 1 := by omega
  refine stepsTo_one_of_cycle hcfg hq fun x hrst => ?_
  rw [cycle_clkHi hrst rfl]
  cases m with
  | zero =>
    rw [clkHi_of_lastMotor hlast rfl, drivePin_transmit_shifting, goto_shifting]
    rfl
  | succ m =>
    have hne : BitVec.ofNat 16 (m + 1) ≠ 0#16 := ne_of_apply_ne BitVec.toNat (by simp [hfi])
    rw [clkHi_of_nextMotor hlast hne, drivePin_transmit_shifting]
    simp [State.shifting, State.afterMotor, BitVec.ofNat_add]

theorem stepsTo_latchHi (hq : s.Quiet 1) (m k : Nat) (p : Pattern) :
    stepsTo 1 (s.shifting .latchHi m k p) = .next ((s.transmit 1 [⟨.latch, true⟩]).shifting .latchEnd m k p) := by
  refine stepsTo_one_of_cycle hcfg hq fun x hrst => ?_
  rw [cycle_latchHi hrst rfl, latchHi, drivePin_transmit_shifting, goto_shifting]
  rfl

theorem stepsTo_latchEnd (hq : s.Quiet 1) (m k : Nat) (p : Pattern) : stepsTo 1 (s.shifting .latchEnd m k p) =
    .next ((s.transmit 1 [⟨.latch, false⟩]).shifting (retState s.ret) m k p) := by
  refine stepsTo_one_of_cycle hcfg hq fun x hrst => ?_
  rw [cycle_latchEnd hrst rfl, latchEnd, drivePin_transmit_shifting, goto_shifting]
  rfl

/-! ### One bit, one motor, all motors -/

/-- The first two cycles of a bit put it on the data line (R69, R70). -/
theorem stepsTo_data (hq : s.Quiet 2) (m : Nat) {k : Nat} (hk : k < s.cfg.b) (p : Pattern) :
    stepsTo 2 (s.shifting .clkLo m k p) =
      .next ((s.transmit 2 [⟨.clk, false⟩, ⟨.data, p.getLsbD k⟩]).shifting .clkHi m k p) := by
  have hlo := stepsTo_clkLo hcfg (hq.mono one_le_two) m k p
  have hdata := stepsTo_dataSet (s := s.transmit 1 [⟨.clk, false⟩]) hcfg (hq.transmit _) m hk p
  rw [transmit_transmit] at hdata
  exact stepsTo_trans hlo hdata

/-- A bit before the last one takes three cycles (R66). -/
theorem stepsTo_nextBit (hq : s.Quiet 3) (m : Nat) {k : Nat} (hk : k + 1 < s.cfg.b) (p : Pattern) :
    stepsTo 3 (s.shifting .clkLo m k p) = .next ((s.transmit 3 (bitPins p k)).shifting .clkLo m (k + 1) p) := by
  have hdata := stepsTo_data hcfg (hq.mono (by decide)) m (Nat.lt_of_succ_lt hk) p
  have hhi := stepsTo_clkHi_nextBit (s := s.transmit 2 [⟨.clk, false⟩, ⟨.data, p.getLsbD k⟩]) hcfg
    (State.Quiet.transmit (k := 1) hq _) m hk p
  rw [transmit_transmit] at hhi
  exact stepsTo_trans hdata hhi

/-- The last bit takes three cycles and ends the motor. -/
theorem stepsTo_lastBit (hq : s.Quiet 3) {m k : Nat} (hm : m < s.cfg.nmax) (hk : k + 1 = s.cfg.b) (p : Pattern) :
    stepsTo 3 (s.shifting .clkLo m k p) = .next ((s.transmit 3 (bitPins p k)).afterMotor m k p) := by
  have hdata := stepsTo_data hcfg (hq.mono (by decide)) m (Nat.lt_of_succ_le hk.le) p
  have hhi := stepsTo_clkHi_lastBit (s := s.transmit 2 [⟨.clk, false⟩, ⟨.data, p.getLsbD k⟩]) hcfg
    (State.Quiet.transmit (k := 1) hq _) hm hk p
  rw [transmit_transmit] at hhi
  exact stepsTo_trans hdata hhi

/-- Bit `k` of motor `m` and the `j` bits after it, to the last one. -/
theorem stepsTo_bits {m k j : Nat} (hq : s.Quiet (3 * (j + 1))) (hm : m < s.cfg.nmax) (hk : k + j + 1 = s.cfg.b)
    (p : Pattern) : stepsTo (3 * (j + 1)) (s.shifting .clkLo m k p) =
      .next ((s.transmit (3 * (j + 1)) ((List.range' k (j + 1)).flatMap (bitPins p))).afterMotor m
        (s.cfg.b - 1) p) := by
  induction j generalizing s k with
  | zero =>
    rw [show s.cfg.b - 1 = k by omega]
    simpa using stepsTo_lastBit hcfg hq hm hk p
  | succ j ih =>
    rw [Nat.mul_succ, Nat.add_comm] at hq ⊢
    have hbit := stepsTo_nextBit hcfg (hq.mono (Nat.le_add_right ..)) m (k := k) (by omega) p
    have hbits := ih (s := s.transmit 3 (bitPins p k)) (k := k + 1) hcfg (hq.transmit _) hm
      (by rw [State.transmit_cfg]; omega)
    rw [transmit_transmit, ← List.flatMap_cons, ← List.range'_succ] at hbits
    exact stepsTo_trans hbit hbits

/-- One motor: LOAD, then its bits from bit 0 on (R66, R78). -/
theorem stepsTo_motor {m : Nat} (hq : s.Quiet (1 + 3 * s.cfg.b)) (hlen : s.pos.length = s.cfg.nmax)
    (hm : m < s.cfg.nmax) (k : Nat) (p : Pattern) : stepsTo (1 + 3 * s.cfg.b) (s.shifting .load m k p) =
      .next ((s.transmit (1 + 3 * s.cfg.b) (serializePins (patternOf s.cfg s.pos m) s.cfg.b)).afterMotor m
        (s.cfg.b - 1) (patternOf s.cfg s.pos m)) := by
  have ⟨_, _, _, ⟨hb, _⟩, _⟩ := hcfg
  have hload := stepsTo_load hcfg (hq.mono (Nat.le_add_right ..)) hlen hm k p
  have hsucc : s.cfg.b - 1 + 1 = s.cfg.b := Nat.sub_add_cancel hb
  have hbits := stepsTo_bits (s := s.transmit 1 []) (k := 0) (j := s.cfg.b - 1) hcfg
    (by rw [hsucc]; exact hq.transmit _) hm (by rw [State.transmit_cfg]; omega) (patternOf s.cfg s.pos m)
  rw [hsucc, ← serializePins_eq_range', transmit_transmit] at hbits
  exact stepsTo_trans hload hbits

/-- Motors `m` down to 0 (R76). -/
theorem stepsTo_motors {m : Nat} (hq : s.Quiet ((m + 1) * (1 + 3 * s.cfg.b))) (hlen : s.pos.length = s.cfg.nmax)
    (hm : m < s.cfg.nmax) (k : Nat) (p : Pattern) :
    stepsTo ((m + 1) * (1 + 3 * s.cfg.b)) (s.shifting .load m k p) =
      .next ((s.transmit ((m + 1) * (1 + 3 * s.cfg.b)) (motorsPins s.cfg s.pos (m + 1))).shifting .latchHi 0
        (s.cfg.b - 1) (patternOf s.cfg s.pos 0)) := by
  induction m generalizing s k p with
  | zero =>
    rw [Nat.zero_add, Nat.one_mul] at hq ⊢
    rw [stepsTo_motor hcfg hq hlen hm, motorsPins_succ]
    simp [motorsPins, State.afterMotor]
  | succ m ih =>
    rw [Nat.succ_mul, Nat.add_comm] at hq ⊢
    have hmotor := stepsTo_motor hcfg (hq.mono (Nat.le_add_right ..)) hlen hm k p
    have hmotors := ih (s := s.transmit (1 + 3 * s.cfg.b) (serializePins (patternOf s.cfg s.pos (m + 1)) s.cfg.b))
      hcfg (hq.transmit _) hlen (Nat.lt_of_succ_lt hm) (s.cfg.b - 1) (patternOf s.cfg s.pos (m + 1))
    simp only [transmit_transmit, State.transmit_cfg, State.transmit_pos, ← motorsPins_succ] at hmotors
    exact stepsTo_trans hmotor hmotors

/-! ### The frame -/

/-- LATCH_HI and LATCH_END pulse the latch and return (R79, R80). -/
theorem stepsTo_latchPulse (hq : s.Quiet 2) (m k : Nat) (p : Pattern) : stepsTo 2 (s.shifting .latchHi m k p) =
    .next ((s.transmit 2 [⟨.latch, true⟩, ⟨.latch, false⟩]).shifting (retState s.ret) m k p) := by
  have hhi := stepsTo_latchHi hcfg (hq.mono one_le_two) m k p
  have hend := stepsTo_latchEnd (s := s.transmit 1 [⟨.latch, true⟩]) hcfg (hq.transmit _) m k p
  rw [transmit_transmit] at hend
  exact stepsTo_trans hhi hend

/-- LATCH_LO, the motors, LATCH_HI and LATCH_END. -/
theorem stepsTo_frame (hshape : s.ShapeOk) (hst : s.st = .latchLo) (hq : s.Quiet (frameCycles s)) :
    stepsTo (frameCycles s) s = .next ((s.transmit (frameCycles s) (framePins s.cfg s.n s.pos s.a)).shifting
      (retState s.ret) 0 (s.cfg.b - 1) (patternOf s.cfg s.pos 0)) := by
  obtain ⟨⟨hn, hnmax⟩, hlen, -, -⟩ := hshape
  obtain ⟨hge, hle⟩ := activeCount_bounds s.cfg (a := s.a) hn
  obtain ⟨m, hm⟩ := Nat.exists_eq_add_of_le' hge
  have hcycles : frameCycles s = 1 + (m + 1) * (1 + 3 * s.cfg.b) + 2 := by
    rw [frameCycles, hm]; omega
  rw [hcycles] at hq ⊢
  have hlo := stepsTo_latchLo hcfg (hq.mono (by omega)) hst hm
  have hmotors := stepsTo_motors (s := s.transmit 1 [⟨.latch, false⟩]) (m := m) hcfg
    (State.Quiet.transmit (hq.mono (Nat.le_add_right _ 2)) _) hlen (by rw [State.transmit_cfg]; omega) s.bi.toNat s.sr
  have hpulse := stepsTo_latchPulse (s := s.transmit _ (⟨.latch, false⟩ :: motorsPins s.cfg s.pos (m + 1))) hcfg
    (hq.transmit _) 0 (s.cfg.b - 1) (patternOf s.cfg s.pos 0)
  rw [transmit_transmit] at hmotors hpulse
  simpa [framePins, hm] using stepsTo_trans (stepsTo_trans hlo hmotors) hpulse

end

/-- A frame ends with the last bit of motor 0 and the latch pulse (R67, R76). -/
theorem framePins_ends_with_bit (c : Config) {n a : Idx} (pos : List Counter) (hcfg : c.WellFormed)
    (hn : 1 ≤ n.toNat) : ∃ es, framePins c n pos a =
      es ++ (bitPins (patternOf c pos 0) (c.b - 1) ++ [⟨.latch, true⟩, ⟨.latch, false⟩]) := by
  have ⟨_, _, _, ⟨hb, _⟩, _⟩ := hcfg
  obtain ⟨hcount, -⟩ := activeCount_bounds c (a := a) hn
  obtain ⟨es, hes⟩ := motorsPins_ends_with_bit c pos hcount hb
  exact ⟨⟨.latch, false⟩ :: es, by simp [framePins, hes]⟩

/-- The pins after a frame are at the levels of its last events (R67). -/
theorem transmit_framePins {s : State} (k : Nat) (a : Idx) (hcfg : s.cfg.WellFormed) (hn : 1 ≤ s.n.toNat) :
    s.transmit k (framePins s.cfg s.n s.pos a) = { s with
      dataQ := (patternOf s.cfg s.pos 0).getLsbD (s.cfg.b - 1), clkQ := true, latchQ := false
      pinTrace := s.pinTrace ++ framePins s.cfg s.n s.pos a, inputs := s.inputs.drop k } := by
  obtain ⟨es, hes⟩ := framePins_ends_with_bit s.cfg (a := a) s.pos hcfg hn
  simp [State.transmit, hes, levelFrom, bitPins]

/-- Settles O46: the run of the frame's cycles, with the pins at the levels of the last events. -/
theorem framePutsExactlyItsEvents : Obligations.FramePutsExactlyItsEvents := by
  intro s ⟨hcfg, hshape, _⟩ hst hq
  have ⟨⟨hn, _⟩, _⟩ := hshape
  rw [stepsTo_frame hcfg hshape hst hq, transmit_framePins _ _ hcfg hn]
  rfl

end Sys2Proof.Machine
end

section
/-! PROOF. The timing gate (43_timing_gate.md R85 to R87): the state GATE, and how far apart its openings are. -/

namespace Sys2Proof.Machine

/-! ### Steps of GATE -/

theorem step_gate {s : State} (hcfg : s.cfg.WellFormed) (hrst : s.nextInput.rst = false) (hst : s.st = .gate) :
    step s = gate s.nextInput.now s.dropInput := by
  rw [step_eq_cycle hcfg, cycle_gate hrst (by simpa using hst)]

/-- Settles O39: the step of GATE is its rule, on the state whose input sample is taken. -/
theorem gateRule : Obligations.GateRule := by
  intro s hcfg hst hrst
  rw [step_gate hcfg hrst hst]
  refine ⟨fun hdue => ?opens, fun hearly => ?waits⟩
  case opens => simpa using gate_opens (s := s.dropInput) (by simpa using hdue)
  case waits => exact gate_waits (by simpa using hearly)

/-! ### What a step without reset does with the watermark and the gate-open times -/

/-- The watermark and the recorded gate-open times are the same in both states (R19, R86). -/
def SameOpenings (s t : State) : Prop := t.last = s.last ∧ t.gateOpens = s.gateOpens

/-- The gate of `s` is due at time `now`, and `t` has it as its watermark and as one more gate-open time (R85). -/
def GateOpened (now : Time) (s t : State) : Prop :=
  s.stepDelay.toNat ≤ (now - s.last).toNat ∧ t.last = now ∧ t.gateOpens = s.gateOpens ++ [now]

/-- No command writes LAST or opens the gate (R19). -/
theorem exec_sameOpenings {i : Instr} {s t : State} (h : exec i s = .next t) : SameOpenings s t := by
  cases i with
  | moveOne => rcases execMoveOne_next h with ⟨-, rfl⟩ | ⟨-, rfl⟩ <;> exact ⟨rfl, rfl⟩
  | moveMany => rcases execMoveMany_next h with ⟨-, -, -, rfl⟩ | ⟨-, rfl⟩ <;> exact ⟨rfl, rfl⟩
  | home => obtain rfl := execHome_next h; exact ⟨rfl, rfl⟩
  | writeDelta => rcases execWriteDelta_next h with ⟨-, -, rfl⟩ | ⟨-, rfl⟩ <;> exact ⟨rfl, rfl⟩
  | setSpeedRpm => rcases execSetSpeedRpm_next h with ⟨-, rfl⟩ | ⟨-, rfl⟩ <;> exact ⟨rfl, rfl⟩
  | setSpeedRad => rcases execSetSpeedRad_next h with ⟨-, rfl⟩ | ⟨-, rfl⟩ <;> exact ⟨rfl, rfl⟩
  | resize => rcases execResize_next h with ⟨-, -, rfl⟩ | ⟨-, rfl⟩ <;> exact ⟨rfl, rfl⟩
  | getMotorCount => obtain rfl := execGetMotorCount_next h; exact ⟨rfl, rfl⟩
  | readPos => rcases execReadPos_next h with ⟨-, p, -, rfl⟩ | ⟨-, rfl⟩ <;> exact ⟨rfl, rfl⟩

/-- No state but GATE writes LAST or opens the gate (R19, R85). -/
theorem Advances.sameOpenings {now : Time} {s t : State} (h : Advances now s t) (hst : s.st ≠ .gate) :
    SameOpenings s t := by
  cases h with
  | gateOpen hgate => exact absurd hgate hst
  | _ => exact ⟨rfl, rfl⟩

/-- A cycle without reset opens a gate that is due, or keeps the watermark and the gate-open times. -/
theorem cycle_openings {x : Input} {s t : State} (h : cycle x s = .next t) (hrst : x.rst = false) :
    SameOpenings s t ∨ GateOpened x.now s t := by
  by_cases hst : s.st = .gate
  · rw [cycle_gate hrst hst] at h
    rcases gate_next h with ⟨hdue, rfl⟩ | ⟨-, rfl⟩
    · exact .inr ⟨hdue, rfl, rfl⟩
    · exact .inl ⟨rfl, rfl⟩
  · rcases cycle_advances h hrst with rfl | ⟨-, rfl⟩ | ⟨-, i, -, he⟩ | hadv
    · exact .inl ⟨rfl, rfl⟩
    · exact .inl ⟨rfl, rfl⟩
    · exact .inl (exec_sameOpenings he)
    · exact .inl (hadv.sameOpenings hst)

theorem step_openings {s t : State} (h : step s = .next t) (hrst : s.nextInput.rst = false) :
    SameOpenings s t ∨ GateOpened s.nextInput.now s t := by
  simpa [SameOpenings, GateOpened] using cycle_openings (step_next h).2 hrst

/-! ### Elapsed time -/

/-- The modular difference of two times is the true one while it is below 2^64, also across a wrap (R85). -/
theorem toNat_ofNat_sub {T T' : Nat} (hle : T ≤ T') (hlt : T' - T < 2 ^ 64) :
    (BitVec.ofNat 64 T' - BitVec.ofNat 64 T : Time).toNat = T' - T := by
  rw [BitVec.toNat_sub, BitVec.toNat_ofNat, BitVec.toNat_ofNat]
  omega

/-- Settles O50: the gate opened because the elapsed time, which is the true one, had reached STEP_DELAY. -/
theorem gateOpeningsAreSpaced : Obligations.GateOpeningsAreSpaced := by
  intro s t T T' h hrst hopens hlast hnow hle hlt
  rcases step_openings h hrst with ⟨-, hsame⟩ | ⟨hdue, htlast, hrecord⟩
  · exact absurd hsame hopens
  · have helapsed : (s.nextInput.now - s.last).toNat = T' - T := by rw [hlast, hnow, toNat_ofNat_sub hle hlt]
    exact ⟨by omega, htlast, by rw [htlast, hrecord]⟩

/-! ### Openings along a run -/

/-- Time `b` comes at least `D` after time `a`, with no wrap in between. -/
def SpacedBy (D : Nat) (a b : Time) : Prop := a.toNat + D ≤ b.toNat

theorem GateOpened.spacedBy {now : Time} {s t : State} {D : Nat} (h : GateOpened now s t)
    (hdelay : D ≤ s.stepDelay.toNat) (hmono : s.last.toNat ≤ now.toNat) : SpacedBy D s.last now := by
  obtain ⟨hdue, -, -⟩ := h
  rw [BitVec.toNat_sub_of_le (BitVec.le_def.mpr hmono)] at hdue
  unfold SpacedBy
  omega

/-- The watermark and the sample times of the next `k` cycles do not decrease (R150). -/
def State.TimeMonotone (s : State) (k : Nat) : Prop :=
  (s.last :: (s.inputs.take k).map Input.now).Pairwise fun a b => a.toNat ≤ b.toNat

/-- The first sample of a monotone run is not before the watermark; the rest is monotone from either of the two. -/
theorem State.TimeMonotone.head {s : State} {k : Nat} {x : Input} {rest : List Input} (h : s.TimeMonotone (k + 1))
    (hin : s.inputs = x :: rest) : s.last.toNat ≤ x.now.toNat ∧
      ∀ t : State, t.inputs = rest → t.last = s.last ∨ t.last = x.now → t.TimeMonotone k := by
  rw [State.TimeMonotone, hin, List.take_succ_cons, List.map_cons] at h
  refine ⟨List.rel_of_pairwise_cons h List.mem_cons_self, fun t htin htlast => ?_⟩
  rw [State.TimeMonotone, htin]
  rcases htlast with hkept | hnew
  · rw [hkept]
    exact h.sublist ((List.sublist_cons_self _ _).cons_cons _)
  · rw [hnew]
    exact h.of_cons

/-- The openings that a quiet monotone run adds, begun with its first watermark, are spaced by any delay that
STEP_DELAY never goes below: each step adds none, or one that its own watermark bounds (R86, R87). -/
theorem stepsTo_openings {D k : Nat} {s t : State} (hq : s.Quiet k) (hmono : s.TimeMonotone k)
    (hdelay : ∀ j ≤ k, ∀ u, stepsTo j s = .next u → D ≤ u.stepDelay.toNat) (h : stepsTo k s = .next t) :
    ∃ opens, t.gateOpens = s.gateOpens ++ opens ∧ (s.last :: opens).IsChain (SpacedBy D) := by
  induction k generalizing s with
  | zero =>
    cases h
    exact ⟨[], by simp, .singleton _⟩
  | succ k ih =>
    obtain ⟨u, hu, hrun⟩ := stepsTo_succ_next h
    obtain ⟨x, rest, hin, hrst, rfl, hdrop, -⟩ := hq.head
    have huin : u.inputs = rest := by rw [cycle_inputs (step_next hu).2, hdrop]
    obtain ⟨hfirst, hrest⟩ := hmono.head hin
    have hafter (hlast : u.last = s.last ∨ u.last = s.nextInput.now) :
        ∃ opens, t.gateOpens = u.gateOpens ++ opens ∧ (u.last :: opens).IsChain (SpacedBy D) :=
      ih (hq.step hu) (hrest u huin hlast)
        (fun j hj v hv => hdelay (j + 1) (by omega) v (by rw [stepsTo_succ j hu, hv])) hrun
    rcases step_openings hu hrst with ⟨hlast, hsame⟩ | hopened
    · obtain ⟨opens, hopens, hchain⟩ := hafter (.inl hlast)
      exact ⟨opens, hsame ▸ hopens, hlast ▸ hchain⟩
    · have ⟨_, hlast, hrecord⟩ := hopened
      obtain ⟨opens, hopens, hchain⟩ := hafter (.inr hlast)
      have hspaced := hopened.spacedBy (hdelay 0 (by omega) s rfl) hfirst
      exact ⟨s.nextInput.now :: opens, by simp [hopens, hrecord], .cons_cons hspaced (hlast ▸ hchain)⟩

/-- Settles O51: the run begins with no gate-open time, so those it ends with are the ones it added. -/
theorem framesAreSpacedAlongRuns : Obligations.FramesAreSpacedAlongRuns := by
  intro s t k D hempty hq hmono hdelay h
  obtain ⟨opens, hopens, hchain⟩ := stepsTo_openings hq hmono hdelay h
  rw [hopens, hempty, List.nil_append]
  exact hchain

end Sys2Proof.Machine
end

section
/-! PROOF. The step delay and the commands that set it (43_timing_gate.md R88 to R93). -/

namespace Sys2Proof.Machine

/-! ### The delays -/

/-- Two truncating divisions by the steps per revolution and the speed are one, and 32 bits hold the quotient
(R92, R93). -/
theorem toNat_ofNat_div_div {c : Nat} (hc : c < 2 ^ 32) (a b : Nat) :
    (BitVec.ofNat 32 (c / a / b)).toNat = c / (a * b) := by
  rw [Nat.div_div_eq_div_mul, BitVec.toNat_ofNat, Nat.mod_eq_of_lt ((Nat.div_le_self _ _).trans_lt hc)]

theorem toNat_delayRpm (c : Config) (r : Word) : (delayRpm c r).toNat = 60000000 / (c.spr * r.toNat) :=
  toNat_ofNat_div_div (by decide) _ _

theorem toNat_delayRad (c : Config) (r : Word) : (delayRad c r).toNat = 6283185 / (c.spr * r.toNat) :=
  toNat_ofNat_div_div (by decide) _ _

/-- The constant of R89 is 2π·10^6 truncated. -/
theorem floor_two_pi_million : ⌊2 * Real.pi * 10 ^ 6⌋₊ = 6283185 := by
  have hlo := Real.pi_gt_d20
  have hhi := Real.pi_lt_d6
  rw [Nat.floor_eq_iff (by positivity)]
  constructor <;> norm_num <;> linarith

/-- Settles O45: truncating 2π·10^6 first and then its quotient is truncating the real quotient once (R92). -/
theorem delaysAreSingleTruncations : Obligations.DelaysAreSingleTruncations := by
  intro c r _ _
  refine ⟨toNat_delayRpm c r, toNat_delayRad c r, ?real, ?rpm, ?rad⟩
  case real =>
    rw [toNat_delayRad, ← Nat.cast_mul, Nat.floor_div_natCast, floor_two_pi_million]
  case rpm => exact toNat_delayRpm c r ▸ Nat.div_le_self _ _
  case rad => exact toNat_delayRad c r ▸ Nat.div_le_self _ _

/-! ### The commands -/

/-- Settles O30: the word decodes by its opcode, and the action is one branch of R90 or the other. -/
theorem setSpeedRpmAcceptance : Obligations.SetSpeedRpmAcceptance := by
  intro s rpm
  refine ⟨fun w hop hrsv hf32 => ?decode, fun hne => if_neg hne, fun hzero => if_pos hzero⟩
  rw [decode_of_opcode (i := .setSpeedRpm rpm) hrsv hop, hf32]
  rfl

/-- Settles O31: the word decodes by its opcode, and the action is one branch of R91 or the other. -/
theorem setSpeedRadAcceptance : Obligations.SetSpeedRadAcceptance := by
  intro s rad
  refine ⟨fun w hop hrsv hf32 => ?decode, fun hne => if_neg hne, fun hzero => if_pos hzero⟩
  rw [decode_of_opcode (i := .setSpeedRad rad) hrsv hop, hf32]
  rfl

end Sys2Proof.Machine
end

section
/-! PROOF. The acceptance actions of the motion commands (44_motion.md R98, R101 to R104). -/

namespace Sys2Proof.Machine

theorem exec_moveOne (idx : Idx) (delta : Counter) (s : State) :
    exec (.moveOne idx delta) s = execMoveOne idx delta s := rfl

theorem exec_moveMany (len : Idx) (s : State) : exec (.moveMany len) s = execMoveMany len s := rfl

theorem exec_home (s : State) : exec .home s = execHome s := rfl

theorem execMoveOne_of_lt {idx : Idx} {s : State} (delta : Counter) (hidx : s.motorInRange idx) :
    execMoveOne idx delta s = .next { s with moIdx := idx, moRem := delta, st := .moStep } := if_pos hidx

theorem execMoveOne_of_le {idx : Idx} {s : State} (delta : Counter) (hidx : s.n.toNat ≤ idx.toNat) :
    execMoveOne idx delta s = .next (s.respond .ok 0#32) := if_neg (Nat.not_lt.mpr hidx)

theorem execWriteDelta_of_le {idx : Idx} {s : State} (delta : Counter) (hidx : s.n.toNat ≤ idx.toNat) :
    execWriteDelta idx delta s = .next (s.raise .errRange) := if_neg (Nat.not_lt.mpr hidx)

theorem execMoveMany_of_le {len : Idx} {s : State} (hs : s.ShapeOk) (hlen : len.toNat ≤ s.n.toNat) :
    execMoveMany len s = .next { s with
      rem := copyDeltas s.dbuf s.rem len.toNat, mode := .many, m := len
      i := 0#16, zc := 0#16, maxch := 0#16, st := .mmPass } := by
  have hdbuf := hs.le_dbuf hlen
  have hrem := hs.le_rem hlen
  rw [execMoveMany, if_neg (by omega), if_neg (by omega)]
  rfl

theorem execMoveMany_of_lt {len : Idx} {s : State} (hlen : s.n.toNat < len.toNat) :
    execMoveMany len s = .next (s.raise .errRange) := if_pos hlen

/-- From index `len` on, the copy keeps REM (R103). -/
theorem copyDeltas_getElem?_of_le {dbuf rem : List Counter} {len k : Nat} (hlen : len ≤ dbuf.length) (hk : len ≤ k) :
    (copyDeltas dbuf rem len)[k]? = rem[k]? := by
  have hsum : len + (k - len) = k := by omega
  rw [copyDeltas, List.getElem?_append_right (by simp; omega), List.getElem?_drop, List.length_take,
    Nat.min_eq_left hlen, hsum]

/-- Settles O26: the word decodes by its opcode, and the action is one branch of R98 or the other (R101). -/
theorem moveOneAcceptance : Obligations.MoveOneAcceptance := by
  intro s idx delta
  refine ⟨fun w hop hrsv hf16 hf32 => ?decode, execMoveOne_of_lt delta, execMoveOne_of_le delta⟩
  rw [decode_of_opcode (i := .moveOne idx delta) hrsv hop, hf16, hf32]
  rfl

/-- Settles O27: the word decodes by its opcode, and an index in range is within DBUF. -/
theorem writeDeltaAcceptance : Obligations.WriteDeltaAcceptance := by
  intro s idx delta hs
  refine ⟨fun w hop hrsv hf16 hf32 => ?decode, fun hidx => execWriteDelta_of_lt delta hidx (hs.le_dbuf hidx),
    execWriteDelta_of_le delta⟩
  rw [decode_of_opcode (i := .writeDelta idx delta) hrsv hop, hf16, hf32]
  rfl

/-- Settles O28: the copy takes DBUF below L and keeps REM from L on. -/
theorem moveManyAcceptance : Obligations.MoveManyAcceptance := by
  intro s len hs
  refine ⟨fun w hop hrsv hf16 => ?decode, fun hlen => ⟨_, execMoveMany_of_le hs hlen, ?length, fun k => ?entries⟩,
    execMoveMany_of_lt⟩
  case decode =>
    rw [decode_of_opcode (i := .moveMany len) hrsv hop, hf16]
    rfl
  case length => exact length_copyDeltas (hs.le_dbuf hlen) (hs.le_rem hlen)
  case entries =>
    split
    · exact copyDeltas_getElem? (hs.le_dbuf hlen) ‹_›
    · exact copyDeltas_getElem?_of_le (hs.le_dbuf hlen) (Nat.not_lt.mp ‹_›)

/-- Settles O29: the word decodes by its opcode, and the action has one branch. -/
theorem homeAcceptance : Obligations.HomeAcceptance :=
  fun _ => ⟨fun _ hop hrsv => decode_of_opcode (i := .home) hrsv hop, rfl⟩

end Sys2Proof.Machine
end

section
/-! PROOF. The states of the motion sequencer (44_motion.md R99, R105 to R108): MO_STEP, MM_PASS, MM_CHECK. -/

namespace Sys2Proof.Machine

/-! ### The state rules, one equation per branch -/

theorem moStep_of_zero {s : State} (h : s32 s.moRem = 0) : moStep s = .next (s.respond .ok 0#32) := if_pos h

theorem moStep_of_ne_zero {s : State} {p : Counter} (h : s32 s.moRem ≠ 0) (hp : s.pos[s.moIdx.toNat]? = some p) :
    moStep s = .next { s with
      moRem := wrap32 (s32 s.moRem - unitStep s.moRem)
      pos := s.pos.set s.moIdx.toNat (wrap32 (s32 p + unitStep s.moRem))
      a := s.moIdx + 1#16, ret := .moStep, st := .gate } := by
  simp [moStep, h, withEntry, hp, State.setPos, State.requestFrame]

theorem mmPass_many_of_zero {s : State} {r : Counter} (hlt : s.i.toNat < s.m.toNat) (hmode : s.mode = .many)
    (hr : s.rem[s.i.toNat]? = some r) (h : s32 r = 0) :
    mmPass s = .next { s with i := s.i + 1#16, zc := s.zc + 1#16 } := by
  simp [mmPass_many hlt hmode, updateMany, withEntry, hr, h]

theorem mmPass_many_of_ne_zero {s : State} {r p : Counter} (hlt : s.i.toNat < s.m.toNat) (hmode : s.mode = .many)
    (hr : s.rem[s.i.toNat]? = some r) (hp : s.pos[s.i.toNat]? = some p) (h : s32 r ≠ 0) :
    mmPass s = .next { s with
      rem := s.rem.set s.i.toNat (wrap32 (s32 r - unitStep r))
      pos := s.pos.set s.i.toNat (wrap32 (s32 p + unitStep r)), maxch := s.i, i := s.i + 1#16 } := by
  simp [mmPass_many hlt hmode, updateMany, withEntry, hr, hp, h, State.setPos, State.setRem]

theorem mmPass_home_of_zero {s : State} {p : Counter} (hlt : s.i.toNat < s.m.toNat) (hmode : s.mode = .home)
    (hp : s.pos[s.i.toNat]? = some p) (h : s32 p = 0) :
    mmPass s = .next { s with i := s.i + 1#16, zc := s.zc + 1#16 } := by
  simp [mmPass_home hlt hmode, updateHome, withEntry, hp, h]

theorem mmPass_home_of_ne_zero {s : State} {p : Counter} (hlt : s.i.toNat < s.m.toNat) (hmode : s.mode = .home)
    (hp : s.pos[s.i.toNat]? = some p) (h : s32 p ≠ 0) :
    mmPass s = .next { s with
      pos := s.pos.set s.i.toNat (wrap32 (s32 p - unitStep p)), maxch := s.i, i := s.i + 1#16 } := by
  simp [mmPass_home hlt hmode, updateHome, withEntry, hp, h, State.setPos]

theorem mmCheck_of_eq {s : State} (h : s.zc = s.m) : mmCheck s = .next (s.respond .ok 0#32) := if_pos h

theorem mmCheck_of_ne {s : State} (h : s.zc ≠ s.m) : mmCheck s = .next s.startPass := if_neg h

/-! ### Steps -/

section
variable {s : State} (hcfg : s.cfg.WellFormed) (hrst : s.nextInput.rst = false)
include hcfg hrst

theorem step_moStep (hst : s.st = .moStep) : step s = moStep s.dropInput := by
  rw [step_eq_cycle hcfg, cycle_moStep hrst (by simpa using hst)]

theorem step_mmPass (hst : s.st = .mmPass) : step s = mmPass s.dropInput := by
  rw [step_eq_cycle hcfg, cycle_mmPass hrst (by simpa using hst)]

theorem step_mmCheck (hst : s.st = .mmCheck) : step s = mmCheck s.dropInput := by
  rw [step_eq_cycle hcfg, cycle_mmCheck hrst (by simpa using hst)]

end

/-! ### One unit toward zero -/

theorem toInt_sub_one {d : Counter} (h : 0 < s32 d) : (d - 1#32).toInt = d.toInt - 1 := by
  have htoward := s32_toward_zero d
  rwa [unitStep_of_pos h, wrap32_sub_one] at htoward

theorem toInt_add_one {d : Counter} (h : s32 d < 0) : (d + 1#32).toInt = d.toInt + 1 := by
  have htoward := s32_toward_zero d
  rwa [unitStep_of_neg h, Int.sub_neg, wrap32_add_one] at htoward

/-- Settles O36: the branches of the rule, with the unit step written out for each sign. -/
theorem moStepRule : Obligations.MoStepRule := by
  intro s p hcfg hst hrst hp
  rw [step_moStep hcfg hrst hst]
  have hrem : s32 s.dropInput.moRem = s.moRem.toInt := by rw [State.dropInput_moRem, s32]
  have hp : s.dropInput.pos[s.dropInput.moIdx.toNat]? = some p := by simpa using hp
  refine ⟨fun hzero => ?zero, fun hpos => ⟨toInt_sub_one hpos, ?pos⟩, fun hneg => ⟨toInt_add_one hneg, ?neg⟩⟩
  case zero => exact moStep_of_zero (hrem.trans hzero)
  case pos =>
    rw [moStep_of_ne_zero (hrem.trans_ne hpos.ne') hp]
    simp [unitStep_of_pos hpos, wrap32_add_one, wrap32_sub_one]
  case neg =>
    rw [moStep_of_ne_zero (hrem.trans_ne hneg.ne) hp]
    simp [unitStep_of_neg hneg, ← Int.sub_eq_add_neg, wrap32_add_one, wrap32_sub_one]

/-- Settles O37: the branches of the rule, with the unit step written out for each sign. -/
theorem passRule : Obligations.PassRule := by
  intro s hcfg hst hrst
  rw [step_mmPass hcfg hrst hst]
  rw [← State.dropInput_i, ← State.dropInput_m, ← State.dropInput_mode, ← State.dropInput_rem, ← State.dropInput_pos,
    ← State.dropInput_zc, ← State.dropInput_maxch]
  refine ⟨fun hlt hmode r p hr hp => ?many, fun hlt hmode p hp => ?home, fun hge => mmPass_frame (Nat.not_lt.mpr hge)⟩
  case many =>
    refine ⟨fun hpos => ?pos, fun hneg => ?neg, mmPass_many_of_zero hlt hmode hr⟩
    case pos =>
      rw [mmPass_many_of_ne_zero hlt hmode hr hp hpos.ne', unitStep_of_pos hpos, wrap32_add_one, wrap32_sub_one]
    case neg =>
      rw [mmPass_many_of_ne_zero hlt hmode hr hp hneg.ne, unitStep_of_neg hneg, ← Int.sub_eq_add_neg,
        Int.sub_neg, wrap32_add_one, wrap32_sub_one]
  case home =>
    refine ⟨fun hpos => ⟨toInt_sub_one hpos, ?pos⟩, fun hneg => ⟨toInt_add_one hneg, ?neg⟩,
      mmPass_home_of_zero hlt hmode hp⟩
    case pos => rw [mmPass_home_of_ne_zero hlt hmode hp hpos.ne', unitStep_of_pos hpos, wrap32_sub_one]
    case neg => rw [mmPass_home_of_ne_zero hlt hmode hp hneg.ne, unitStep_of_neg hneg, Int.sub_neg, wrap32_add_one]

/-- Settles O38: the exit test is one branch of R108 or the other. -/
theorem exitTestAfterFrame : Obligations.ExitTestAfterFrame := by
  intro s hcfg hst hrst
  rw [step_mmCheck hcfg hrst hst]
  exact ⟨fun heq => mmCheck_of_eq (by simpa using heq), fun hne => mmCheck_of_ne (by simpa using hne)⟩

end Sys2Proof.Machine
end

section
/-! PROOF. The run of a command to its completion (42_frame.md R81, 44_motion.md R105): how many cycles at least are
left, and the frame that every run sends from GATE on. -/

namespace Sys2Proof.Machine

/-! ### The cycles left in a frame or a pass -/

/-- The cycles until the frame in progress returns, or until the pass in progress requests its frame (R105, R157);
0 in a state of neither. -/
def State.cyclesLeft (s : State) : Nat :=
  match s.st with
  | .mmPass => s.m.toNat - s.i.toNat + 1
  | .latchLo => frameCycles s
  | .load => (s.fi.toNat + 1) * (1 + 3 * s.cfg.b) + 2
  | .clkLo => s.fi.toNat * (1 + 3 * s.cfg.b) + 3 * (s.cfg.b - s.bi.toNat) + 2
  | .dataSet => s.fi.toNat * (1 + 3 * s.cfg.b) + 3 * (s.cfg.b - s.bi.toNat) + 1
  | .clkHi => s.fi.toNat * (1 + 3 * s.cfg.b) + 3 * (s.cfg.b - s.bi.toNat)
  | .latchHi => 2
  | .latchEnd => 1
  | .idle | .done | .moStep | .mmCheck | .gate => 0

section
variable {s t : State}

theorem cyclesLeft_mmPass (h : s.st = .mmPass) : s.cyclesLeft = s.m.toNat - s.i.toNat + 1 := by
  simp [State.cyclesLeft, h]

theorem cyclesLeft_latchLo (h : s.st = .latchLo) : s.cyclesLeft = frameCycles s := by simp [State.cyclesLeft, h]

theorem cyclesLeft_clkHi (h : s.st = .clkHi) :
    s.cyclesLeft = s.fi.toNat * (1 + 3 * s.cfg.b) + 3 * (s.cfg.b - s.bi.toNat) := by
  simp [State.cyclesLeft, h]

theorem cyclesLeft_of_done (h : s.st = .done) : s.cyclesLeft = 0 := by simp [State.cyclesLeft, h]

theorem cyclesLeft_dropInput (s : State) : s.dropInput.cyclesLeft = s.cyclesLeft := by
  simp [State.cyclesLeft, frameCycles]

/-- A cycle of a pass handles one motor, or requests the frame once all are handled (R105). -/
theorem mmPass_cyclesLeft (hst : s.st = .mmPass) (h : mmPass s = .next t) : t.cyclesLeft + 1 = s.cyclesLeft := by
  have hmotor {u : State} (hu : u.st = s.st) (hm : u.m = s.m) (hi : u.i = s.i + 1#16) (hlt : s.i.toNat < s.m.toNat) :
      u.cyclesLeft + 1 = s.cyclesLeft := by
    rw [cyclesLeft_mmPass hst, cyclesLeft_mmPass (hu.trans hst), hm, hi, idx_succ hlt]
    omega
  rcases mmPass_next h with ⟨hlt, -, h⟩ | ⟨hlt, -, h⟩ | ⟨hge, rfl⟩
  · obtain ⟨r, -, ⟨-, rfl⟩ | ⟨-, p, -, rfl⟩⟩ := updateMany_next h <;> exact hmotor rfl rfl rfl hlt
  · obtain ⟨p, -, ⟨-, rfl⟩ | ⟨-, rfl⟩⟩ := updateHome_next h <;> exact hmotor rfl rfl rfl hlt
  · rw [cyclesLeft_mmPass hst, Nat.sub_eq_zero_of_le hge]
    rfl

/-- CLK_HI goes on to the next bit, to the next motor down, or to the latch (R71). -/
theorem clkHi_cyclesLeft (hst : s.st = .clkHi) (hb : s.cfg.b ≤ 8) (hbi : s.bi.toNat < s.cfg.b)
    (h : clkHi s = .next t) : t.cyclesLeft + 1 = s.cyclesLeft := by
  rw [cyclesLeft_clkHi hst]
  rcases clkHi_next h with ⟨hlt, rfl⟩ | ⟨hlast, hne, rfl⟩ | ⟨hlast, hzero, rfl⟩
  · have hsucc : (s.bi + 1#3).toNat = s.bi.toNat + 1 := by simp; omega
    simp only [State.cyclesLeft, State.drivePin_cfg, State.drivePin_fi, hsucc]
    omega
  · have hpos : 0 < s.fi.toNat := Nat.pos_of_ne_zero fun h0 => hne (BitVec.eq_of_toNat_eq h0)
    have hpred : (s.fi - 1#16).toNat + 1 = s.fi.toNat := by rw [idx_pred hne]; omega
    simp only [State.cyclesLeft, State.drivePin_cfg, hpred]
    omega
  · simp [State.cyclesLeft, hzero]
    omega

/-- Each cycle without reset of a frame or a pass leaves one less. -/
theorem cycle_cyclesLeft {x : Input} (hs : s.Inv) (hrst : x.rst = false) (h : cycle x s = .next t)
    (hleft : s.cyclesLeft ≠ 0) : t.cyclesLeft + 1 = s.cyclesLeft := by
  obtain ⟨⟨-, -, -, ⟨hb, hb8⟩, -⟩, ⟨⟨hn, -⟩, -⟩, -, hindices⟩ := hs
  cases hst : s.st with
  | idle | done | moStep | mmCheck | gate => simp [State.cyclesLeft, hst] at hleft
  | mmPass => exact mmPass_cyclesLeft hst (by rwa [cycle_mmPass hrst hst] at h)
  | latchLo =>
    rw [cycle_latchLo hrst hst] at h
    cases h
    obtain ⟨hge, -⟩ := activeCount_bounds s.cfg (a := s.a) hn
    have hne : activeCount s.cfg s.a s.n ≠ 0#16 := fun h0 => by simp [h0] at hge
    have hpred : (activeCount s.cfg s.a s.n - 1#16).toNat + 1 = (activeCount s.cfg s.a s.n).toNat := by
      rw [idx_pred hne]; omega
    simp only [State.cyclesLeft, hst, frameCycles, State.drivePin_cfg, hpred]
  | load =>
    rw [cycle_load hrst hst] at h
    obtain ⟨p, v, -, -, rfl⟩ := load_next h
    simp [State.cyclesLeft, hst]
    ring
  | clkLo => rw [cycle_clkLo hrst hst] at h; cases h; simp [State.cyclesLeft, hst]
  | dataSet => rw [cycle_dataSet hrst hst] at h; cases h; simp [State.cyclesLeft, hst]
  | clkHi =>
    obtain ⟨-, -, hbi⟩ := (indicesOk_bit (.inr (.inr hst))).mp hindices
    exact clkHi_cyclesLeft hst hb8 hbi (by rwa [cycle_clkHi hrst hst] at h)
  | latchHi => rw [cycle_latchHi hrst hst] at h; cases h; simp [State.cyclesLeft, hst]
  | latchEnd =>
    rw [cycle_latchEnd hrst hst] at h
    cases h
    cases hret : s.ret <;> simp [State.cyclesLeft, hst, retState]

end

/-! ### Runs to DONE -/

/-- `s` with the samples `rest` listed. -/
def State.withInputs (s : State) (rest : List Input) : State := { s with inputs := rest }

/-- A run of quiet cycles from `s` reaches `t`, and `t` is its first state in DONE (R56). -/
inductive Finishes (t : State) : State → Prop
  | done (hst : t.st = .done) : Finishes t t
  | step {s u : State} (hst : s.st ≠ .done) (hq : s.Quiet 1) (hu : step s = .next u) (h : Finishes t u) :
      Finishes t s

section
variable {s t u : State}

theorem finishes_of_first {k : Nat} (hq : s.Quiet k) (hrun : stepsTo k s = .next t) (hdone : t.st = .done)
    (hfirst : ∀ j < k, ∀ u, stepsTo j s = .next u → u.st ≠ .done) : Finishes t s := by
  induction k generalizing s with
  | zero => cases hrun; exact .done hdone
  | succ k ih =>
    obtain ⟨u, hu, hrun⟩ := stepsTo_succ_next hrun
    refine .step (hfirst 0 k.succ_pos s rfl) (hq.mono (by omega)) hu (ih (hq.step hu) hrun fun j hj v hv => ?_)
    exact hfirst (j + 1) (by omega) v (by rw [stepsTo_succ j hu, hv])

/-- The run of an accepted command is the one that `CompletesAt` speaks of. -/
theorem finishes_of_completesAt {k : Nat} (hq : s.Quiet k) (h : CompletesAt k s t) (hst : s.st ≠ .done) :
    Finishes t s := by
  obtain ⟨hrun, hdone, -, hfirst⟩ := h
  refine finishes_of_first hq hrun hdone fun j hj u hu => ?_
  rcases Nat.eq_zero_or_pos j with rfl | hpos
  · cases hu; exact hst
  · exact hfirst j hpos hj u hu

theorem Finishes.eq_of_done (h : Finishes t s) (hst : s.st = .done) : t = s := by
  cases h with
  | done => rfl
  | step hne => exact absurd hst hne

/-- A run that is not at its end takes a listed sample without reset and goes on. -/
theorem Finishes.next (h : Finishes t s) (hs : s.Inv) (hst : s.st ≠ .done) : ∃ x rest u, x.rst = false ∧
    cycle x (s.withInputs rest) = .next u ∧ u.Inv ∧ Finishes t u := by
  cases h with
  | done hdone => exact absurd hdone hst
  | @step _ u _ hq hu h =>
    obtain ⟨x, rest, -, hrst, hstep, -⟩ := step_quiet hs.1 hq
    exact ⟨x, rest, u, hrst, hstep ▸ hu, stepKeepsInvariant s u hs hu, h⟩

/-- A run whose first cycle offers the word of command `i` goes on from its acceptance action (R50). -/
theorem Finishes.accepted {i : Instr} (h : Finishes t s) (hs : s.Inv) (hst : s.st = .idle)
    (hoffers : s.Offers (encode i)) :
    ∃ rest u, exec i (s.withInputs rest) = .next u ∧ u.Inv ∧ Finishes t u := by
  cases h with
  | done hdone => simp [hst] at hdone
  | @step _ u _ hq hu h =>
    obtain ⟨x, rest, -, -, -, hdrop, -⟩ := hq.head
    have hstep := step_offers hs.1 hst hoffers
    rw [accept_of_ok (decodeOfEncode i), hdrop] at hstep
    exact ⟨rest, u, hstep.symm.trans hu, stepKeepsInvariant s u hs hu, h⟩

/-- A run does not end within a frame or a pass. -/
theorem Finishes.skip (h : Finishes t s) (hs : s.Inv) :
    s.Quiet s.cyclesLeft ∧ ∀ u, stepsTo s.cyclesLeft s = .next u → Finishes t u := by
  induction h with
  | done hst =>
    rw [cyclesLeft_of_done hst]
    exact ⟨⟨Nat.zero_le _, by simp⟩, fun u hu => by cases hu; exact .done hst⟩
  | @step s v hst hq hv h ih =>
    obtain ⟨hqv, hrest⟩ := ih (stepKeepsInvariant s v hs hv)
    by_cases hleft : s.cyclesLeft = 0
    · rw [hleft]
      exact ⟨⟨Nat.zero_le _, by simp⟩, fun u hu => by cases hu; exact .step hst hq hv h⟩
    obtain ⟨x, rest, hin, hrst, rfl, hdrop, -⟩ := hq.head
    have hcycle := (step_next hv).2
    have hcount := cycle_cyclesLeft (dropInput_inv hs) hrst hcycle (by rwa [cyclesLeft_dropInput])
    rw [cyclesLeft_dropInput] at hcount
    rw [← hcount]
    have hvin : v.inputs = rest := by rw [cycle_inputs hcycle, hdrop]
    refine ⟨⟨?_, ?_⟩, fun u hu => hrest u ((stepsTo_succ _ hv).symm.trans hu)⟩
    · simpa [hin, ← hvin] using hqv.1
    · simpa [hin, ← hvin, hrst] using hqv.2

/-! ### The frame -/

/-- `s` once its frame is sent: the gate opened at time `now`, the events of R76 are on the pins, and the samples
`rest` are left (R76, R82, R85). -/
def State.frameSent (s : State) (now : Time) (rest : List Input) : State :=
  { s with
    st := retState s.ret, fi := 0#16, bi := BitVec.ofNat 3 (s.cfg.b - 1), sr := patternOf s.cfg s.pos 0
    dataQ := (patternOf s.cfg s.pos 0).getLsbD (s.cfg.b - 1), clkQ := true, latchQ := false
    pinTrace := s.pinTrace ++ framePins s.cfg s.n s.pos s.a
    gateOpens := s.gateOpens ++ [now], last := now, inputs := rest }

/-- A run that is in GATE leaves it: it ends in DONE. -/
theorem Finishes.gate_opens (h : Finishes t s) (hs : s.Inv) (hst : s.st = .gate) : ∃ now rest,
    State.Inv { s with last := now, st := .latchLo, gateOpens := s.gateOpens ++ [now], inputs := rest } ∧
    Finishes t { s with last := now, st := .latchLo, gateOpens := s.gateOpens ++ [now], inputs := rest } := by
  induction h with
  | done hdone => simp [hdone] at hst
  | @step s u _ hq hu h ih =>
    have hinv := stepKeepsInvariant s u hs hu
    obtain ⟨x, rest, -, hrst, rfl, hdrop, -⟩ := hq.head
    rw [step_gate hs.1 hrst hst, hdrop] at hu
    rcases gate_next hu with ⟨-, rfl⟩ | ⟨-, rfl⟩
    · exact ⟨_, _, hinv, h⟩
    · exact ih hinv hst

/-- A run that has requested a frame sends it and goes on from the state that RET names. -/
theorem Finishes.frame (h : Finishes t s) (hs : s.Inv) (hst : s.st = .gate) :
    ∃ now rest, (s.frameSent now rest).Inv ∧ Finishes t (s.frameSent now rest) := by
  obtain ⟨now, rest, hinv, hopen⟩ := h.gate_opens hs hst
  obtain ⟨hq, hrest⟩ := hopen.skip hinv
  rw [cyclesLeft_latchLo rfl] at hq hrest
  have hrun := framePutsExactlyItsEvents _ hinv rfl hq
  exact ⟨now, _, stepsTo_invariant stepKeepsInvariant hinv hrun, hrest _ hrun⟩

end

end Sys2Proof.Machine
end

section
/-! PROOF. MOVE_ONE as a whole (44_motion.md R98 to R100): one frame for each unit of its delta. -/

namespace Sys2Proof.Machine

/-! ### Displacements worked off unit by unit (R99, R106) -/

theorem workedOff_of_le {d : Int} {j : Nat} (h : d.natAbs ≤ j) : workedOff d j = d := by
  unfold workedOff; omega

/-- What is left of a displacement after one unit step toward zero. -/
def leftOver (d : Int) : Int := d - workedOff d 1

theorem workedOff_succ (d : Int) (j : Nat) : workedOff d (j + 1) = workedOff d 1 + workedOff (leftOver d) j := by
  unfold leftOver workedOff; omega

theorem natAbs_leftOver (d : Int) : (leftOver d).natAbs = d.natAbs - 1 := by
  unfold leftOver workedOff; omega

theorem unitStep_eq_workedOff {d : Counter} (h : s32 d ≠ 0) : unitStep d = workedOff (s32 d) 1 := by
  unfold unitStep workedOff; split <;> omega

/-- One unit, then the rest (R100). -/
theorem wrap32_workedOff_succ (p : Counter) (d : Int) (j : Nat) :
    wrap32 (s32 (wrap32 (s32 p + workedOff d 1)) + workedOff (leftOver d) j) =
      wrap32 (s32 p + workedOff d (j + 1)) := by
  rw [wrap32_add, Int.add_assoc, ← workedOff_succ]

theorem wrap32_s32_add (p d : Counter) : wrap32 (s32 p + s32 d) = p + d := by
  apply BitVec.eq_of_toInt_eq
  simp [wrap32, s32, BitVec.toInt_ofInt, BitVec.toInt_add]

/-! ### What a completed motion leaves behind -/

/-- From `s` on, the run put the events `es` on the pins in `count` frames and ended in `t` with status OK, and N,
DBUF and STEP_DELAY are kept (R56, R100, R109, R110). -/
structure MotionDone (s t : State) (es : List PinEvent) (count : Nat) : Prop where
  pins : t.pinTrace = s.pinTrace ++ es
  opens : ∃ opens : List Time, t.gateOpens = s.gateOpens ++ opens ∧ opens.length = count
  status : t.respStatus = 0#4
  data : t.respData = 0#32
  n : t.n = s.n
  dbuf : t.dbuf = s.dbuf
  stepDelay : t.stepDelay = s.stepDelay

/-- `u` is `s` but for registers of the sequencer, counters and samples: a completion from the one is one from the
other. -/
def SameBackground (s u : State) : Prop :=
  u.pinTrace = s.pinTrace ∧ u.gateOpens = s.gateOpens ∧ u.n = s.n ∧ u.dbuf = s.dbuf ∧ u.stepDelay = s.stepDelay

section
variable {s t u : State} {es : List PinEvent} {count : Nat}

theorem SameBackground.motionDone (hu : SameBackground s u) (h : MotionDone u t es count) :
    MotionDone s t es count := by
  obtain ⟨hpins, hopens, hn, hdbuf, hdelay⟩ := hu
  exact ⟨hpins ▸ h.pins, hopens ▸ h.opens, h.status, h.data, hn ▸ h.n, hdbuf ▸ h.dbuf, hdelay ▸ h.stepDelay⟩

/-- A motion with nothing left answers OK and sends no frame (R99, R108). -/
theorem SameBackground.motionDone_respond (hu : SameBackground s u) : MotionDone s (u.respond .ok 0#32) [] 0 :=
  hu.motionDone
    { pins := by simp, opens := ⟨[], by simp, rfl⟩, status := rfl, data := rfl, n := rfl, dbuf := rfl
      stepDelay := rfl }

/-- A frame that is sent first adds its events and its opening. -/
theorem MotionDone.of_frameSent {now : Time} {rest : List Input} (h : MotionDone (s.frameSent now rest) t es count) :
    MotionDone s t (framePins s.cfg s.n s.pos s.a ++ es) (count + 1) := by
  obtain ⟨opens, hopens, hlen⟩ := h.opens
  exact {
    pins := h.pins.trans (List.append_assoc ..)
    opens := ⟨now :: opens, hopens.trans (List.append_assoc ..), congrArg (· + 1) hlen⟩
    status := h.status
    data := h.data
    n := h.n
    dbuf := h.dbuf
    stepDelay := h.stepDelay }

end

/-! ### The frames of a MOVE_ONE -/

/-- The pin events of the frames of a MOVE_ONE: the motor `idx`, at `p`, moves by `d` (R100). -/
def moveOnePins (c : Config) (n : Idx) (pos : List Counter) (idx : Idx) (p : Counter) (d : Int) : List PinEvent :=
  (List.range d.natAbs).flatMap fun j =>
    framePins c n (pos.set idx.toNat (wrap32 (s32 p + workedOff d (j + 1)))) (idx + 1#16)

/-- The first frame, then those of what is left. -/
theorem moveOnePins_of_ne_zero (c : Config) (n : Idx) (pos : List Counter) (idx : Idx) (p : Counter) {d : Int}
    (hd : d ≠ 0) : moveOnePins c n pos idx p d =
      framePins c n (pos.set idx.toNat (wrap32 (s32 p + workedOff d 1))) (idx + 1#16) ++
      moveOnePins c n (pos.set idx.toNat (wrap32 (s32 p + workedOff d 1))) idx (wrap32 (s32 p + workedOff d 1))
        (leftOver d) := by
  obtain ⟨k, hk⟩ := Nat.exists_eq_add_one_of_ne_zero (Int.natAbs_ne_zero.mpr hd)
  rw [moveOnePins, moveOnePins, natAbs_leftOver, hk, List.range_succ_eq_map]
  simp [List.flatMap_map, wrap32_workedOff_succ]

/-- `s` once MO_STEP has moved its motor, at `p`, by one unit and requested the frame (R99). -/
def State.moveOneUnit (s : State) (p : Counter) : State :=
  { s with
    moRem := wrap32 (s32 s.moRem - unitStep s.moRem)
    pos := s.pos.set s.moIdx.toNat (wrap32 (s32 p + unitStep s.moRem))
    a := s.moIdx + 1#16, ret := .moStep, st := .gate }

theorem s32_moRem_moveOneUnit {s : State} (p : Counter) (hne : s32 s.moRem ≠ 0) :
    s32 (s.moveOneUnit p).moRem = leftOver (s32 s.moRem) :=
  (s32_toward_zero s.moRem).trans (by rw [unitStep_eq_workedOff hne, leftOver])

section
variable {s t : State} {p : Counter} (h : Finishes t s) (hs : s.Inv) (hst : s.st = .moStep)
include h hs hst

theorem Finishes.moStep_zero (hzero : s32 s.moRem = 0) : ∃ rest, t = (s.withInputs rest).respond .ok 0#32 := by
  obtain ⟨x, rest, u, hrst, hu, -, hrun⟩ := h.next hs (by simp [hst])
  rw [cycle_moStep (s := s.withInputs rest) hrst hst, moStep_of_zero (s := s.withInputs rest) hzero] at hu
  cases hu
  exact ⟨rest, hrun.eq_of_done rfl⟩

theorem Finishes.moStep_unit (hp : s.pos[s.moIdx.toNat]? = some p) (hne : s32 s.moRem ≠ 0) : ∃ now rest,
    ((s.moveOneUnit p).frameSent now rest).Inv ∧ Finishes t ((s.moveOneUnit p).frameSent now rest) := by
  obtain ⟨x, rest, u, hrst, hu, hinv, hrun⟩ := h.next hs (by simp [hst])
  rw [cycle_moStep (s := s.withInputs rest) hrst hst, moStep_of_ne_zero (s := s.withInputs rest) hne hp] at hu
  cases hu
  exact hrun.frame hinv rfl

/-- A MOVE_ONE in MO_STEP runs to DONE: each unit of MO_REM moves its counter and sends a frame. -/
theorem Finishes.moveOne (hp : s.pos[s.moIdx.toNat]? = some p) :
    t.pos = s.pos.set s.moIdx.toNat (p + s.moRem) ∧
    MotionDone s t (moveOnePins s.cfg s.n s.pos s.moIdx p (s32 s.moRem)) (s32 s.moRem).natAbs := by
  obtain ⟨k, hk⟩ : ∃ k, (s32 s.moRem).natAbs = k := ⟨_, rfl⟩
  induction k generalizing s p with
  | zero =>
    have hzero := Int.natAbs_eq_zero.mp hk
    obtain ⟨rest, rfl⟩ := h.moStep_zero hs hst hzero
    obtain ⟨hlt, rfl⟩ := List.getElem?_eq_some_iff.mp hp
    have hrem : s.moRem = 0#32 := s32_inj.mp hzero
    refine ⟨by simp [hrem, State.withInputs], ?_⟩
    rw [hk, hzero]
    exact SameBackground.motionDone_respond ⟨rfl, rfl, rfl, rfl, rfl⟩
  | succ k ih =>
    have hne : s32 s.moRem ≠ 0 := by omega
    obtain ⟨now, rest, hinv, hrun⟩ := h.moStep_unit hs hst hp hne
    have hrem := s32_moRem_moveOneUnit p hne
    have hleft : (s32 (s.moveOneUnit p).moRem).natAbs = k := by
      rw [hrem, natAbs_leftOver, hk, Nat.add_sub_cancel]
    obtain ⟨hlt, -⟩ := List.getElem?_eq_some_iff.mp hp
    obtain ⟨hpos, hdone⟩ := ih hrun hinv rfl (List.getElem?_set_self hlt) hleft
    have hunit := unitStep_eq_workedOff hne
    refine ⟨hpos.trans ?_, ?_⟩
    · have hsum : wrap32 (s32 p + unitStep s.moRem) + (s.moveOneUnit p).moRem = p + s.moRem := by
        rw [← wrap32_s32_add, wrap32_add, hrem, hunit, ← wrap32_s32_add, leftOver, Int.add_assoc, add_sub_cancel]
      exact (List.set_set ..).trans (congrArg _ hsum)
    · rw [moveOnePins_of_ne_zero _ _ _ _ _ hne, ← hrem, ← hunit, hk, ← hleft]
      have hsame : SameBackground s (s.moveOneUnit p) := ⟨rfl, rfl, rfl, rfl, rfl⟩
      exact hsame.motionDone hdone.of_frameSent

end

/-- Settles O52: the command is accepted into MO_STEP, and runs to DONE from there. -/
theorem moveOneNetEffect : Obligations.MoveOneNetEffect := by
  intro s t k idx delta p hs hst hq hoffers hidx hp hcompletes
  obtain ⟨rest, u, hu, hinv, hrun⟩ := (finishes_of_completesAt hq hcompletes (by simp [hst])).accepted hs hst hoffers
  rw [exec_moveOne, execMoveOne_of_lt (s := s.withInputs rest) delta hidx] at hu
  cases hu
  obtain ⟨hpos, hdone⟩ := hrun.moveOne hinv rfl hp
  exact ⟨hpos, hdone.pins, hdone.opens, hdone.status, hdone.data, hdone.n, hdone.dbuf, hdone.stepDelay⟩

end Sys2Proof.Machine
end

section
/-! PROOF. What the passes of a move leave behind (44_motion.md R106, R107, R109): counters, active counts and pin
events, one pass after another. -/

namespace Sys2Proof.Machine

/-! ### Displacements -/

@[simp] theorem workedOff_zero (j : Nat) : workedOff 0 j = 0 := workedOff_of_le (Nat.zero_le j)

theorem workedOff_neg (d : Int) (j : Nat) : workedOff (-d) j = -workedOff d j := by
  unfold workedOff; omega

theorem leftOver_neg (d : Int) : leftOver (-d) = -leftOver d := by
  rw [leftOver, leftOver, workedOff_neg]; omega

/-- A counter that steps toward zero does not overflow (R107, R115). -/
theorem s32_wrap32_leftOver (p : Counter) : s32 (wrap32 (leftOver (s32 p))) = leftOver (s32 p) := by
  have hge := s32_ge p
  have hlt := s32_lt p
  apply s32_wrap32 <;> unfold leftOver workedOff <;> omega

/-- No unit step leaves a counter where it is. -/
theorem wrap32_workedOff_one_eq_iff (p : Counter) (d : Int) : wrap32 (s32 p + workedOff d 1) = p ↔ d = 0 := by
  rcases lt_trichotomy d 0 with hneg | rfl | hpos
  · have hunit : workedOff d 1 = -1 := by unfold workedOff; omega
    rw [hunit, ← Int.sub_eq_add_neg, wrap32_sub_one]
    exact iff_of_false (by bv_omega) hneg.ne
  · simp
  · have hunit : workedOff d 1 = 1 := by unfold workedOff; omega
    rw [hunit, wrap32_add_one]
    exact iff_of_false (by bv_omega) hpos.ne'

/-! ### The counters (R109) -/

theorem countersAfter_getElem? (pos : List Counter) (ds : List Int) (j k : Nat) :
    (countersAfter pos ds j)[k]? = (pos[k]?).map fun p => wrap32 (s32 p + workedOff (ds[k]?.getD 0) j) := by
  rw [countersAfter, List.getElem?_append]
  split
  · next hlt =>
    obtain ⟨hpos, hds⟩ : k < pos.length ∧ k < ds.length := by simpa using hlt
    simp [hpos, hds]
  · next hge =>
    rw [List.length_zipWith] at hge ⊢
    rcases Nat.lt_or_ge k pos.length with hpos | hpos
    · have hds : ds.length ≤ k := by omega
      have hmin : min pos.length ds.length = ds.length := by omega
      simp [hmin, Nat.add_sub_cancel' hds, List.getElem?_eq_none hds]
    · simp [List.getElem?_eq_none hpos]
      omega

theorem length_countersAfter (pos : List Counter) (ds : List Int) (j : Nat) :
    (countersAfter pos ds j).length = pos.length := by
  simp [countersAfter]; omega

/-- One pass, then the others. -/
theorem countersAfter_succ (pos : List Counter) (ds : List Int) (j : Nat) :
    countersAfter (countersAfter pos ds 1) (ds.map leftOver) j = countersAfter pos ds (j + 1) := by
  refine List.ext_getElem? fun k => ?_
  have hleft : (ds.map leftOver)[k]?.getD 0 = leftOver (ds[k]?.getD 0) := by
    rw [List.getElem?_map]; cases ds[k]? <;> rfl
  simp only [countersAfter_getElem?, hleft, Option.map_map, Function.comp_def, wrap32_workedOff_succ]

/-- A further motor of the pass. -/
theorem countersAfter_append (pos : List Counter) (ds : List Int) (d : Int) (j : Nat) {p : Counter}
    (hp : pos[ds.length]? = some p) :
    countersAfter pos (ds ++ [d]) j = (countersAfter pos ds j).set ds.length (wrap32 (s32 p + workedOff d j)) := by
  have hlt := (List.getElem?_eq_some_iff.mp hp).1
  refine List.ext_getElem? fun k => ?_
  rw [countersAfter_getElem?, List.getElem?_set, length_countersAfter, countersAfter_getElem?]
  rcases lt_trichotomy k ds.length with hbelow | rfl | habove
  · rw [if_neg hbelow.ne', List.getElem?_append_left hbelow]
  · rw [if_pos rfl, if_pos hlt, hp, List.getElem?_concat_length]
    rfl
  · rw [if_neg habove.ne, List.getElem?_eq_none (by simp; omega), List.getElem?_eq_none (l := ds) (by omega)]

theorem countersAfter_of_zero (pos : List Counter) {ds : List Int} (h : ∀ d ∈ ds, d = 0) (j : Nat) :
    countersAfter pos ds j = pos := by
  refine List.ext_getElem? fun k => ?_
  have hk : ds[k]?.getD 0 = 0 := by
    cases hd : ds[k]? with
    | none => rfl
    | some d => exact h d (List.mem_of_getElem? hd)
  simp [countersAfter_getElem?, hk]

theorem countersAfter_append_zero (pos : List Counter) (ds : List Int) (j : Nat) :
    countersAfter pos (ds ++ [0]) j = countersAfter pos ds j := by
  have hget (k : Nat) : (ds ++ [0])[k]?.getD 0 = ds[k]?.getD 0 := by
    rcases Nat.lt_or_ge k ds.length with hlt | hge
    · rw [List.getElem?_append_left hlt]
    · rw [List.getElem?_append_right hge, List.getElem?_eq_none hge]
      cases k - ds.length <;> rfl
  exact List.ext_getElem? fun k => by rw [countersAfter_getElem?, countersAfter_getElem?, hget]

/-- A motor without a displacement keeps its counter. -/
theorem countersAfter_getElem?_of_le (pos : List Counter) {ds : List Int} {k : Nat} (hk : ds.length ≤ k) (j : Nat) :
    (countersAfter pos ds j)[k]? = pos[k]? := by
  simp [countersAfter_getElem?, List.getElem?_eq_none hk]

/-! ### The number of passes and their active counts (R109) -/

theorem natAbs_le_largest {ds : List Int} {d : Int} (h : d ∈ ds) : d.natAbs ≤ largest ds := by
  induction ds with
  | nil => cases h
  | cons e ds ih =>
    rw [largest, List.foldr_cons]
    rcases List.mem_cons.mp h with rfl | h
    · exact Nat.le_max_left ..
    · exact (ih h).trans (Nat.le_max_right ..)

theorem largest_eq_zero_iff (ds : List Int) : largest ds = 0 ↔ ∀ d ∈ ds, d = 0 := by
  induction ds with
  | nil => simp [largest]
  | cons d ds ih =>
    rw [List.forall_mem_cons, ← ih]
    simp [largest]

theorem largest_map_leftOver (ds : List Int) : largest (ds.map leftOver) = largest ds - 1 := by
  induction ds with
  | nil => rfl
  | cons d ds ih =>
    simp only [largest, List.map_cons, List.foldr_cons, natAbs_leftOver] at ih ⊢
    omega

theorem largest_map_neg (ds : List Int) : largest (ds.map (- ·)) = largest ds := by
  simp [largest, List.foldr_map]

theorem passCount_le (ds : List Int) (j : Nat) : passCount ds j ≤ ds.length + 1 := by
  refine Nat.succ_le_succ (List.foldlRecOn (motive := (· ≤ ds.length)) _ _ (Nat.zero_le _) fun b hb k hk => ?_)
  exact Nat.max_le.mpr ⟨hb, (List.mem_range.mp (List.mem_of_mem_filter hk)).le⟩

theorem passCount_append (ds : List Int) (d : Int) (j : Nat) :
    passCount (ds ++ [d]) j = if j ≤ d.natAbs then ds.length + 1 else passCount ds j := by
  have hsame : (List.range ds.length).filter (fun k => decide (j ≤ ((ds ++ [d]).getD k 0).natAbs)) =
      (List.range ds.length).filter fun k => decide (j ≤ (ds.getD k 0).natAbs) :=
    List.filter_congr fun k hk => by rw [List.getD_append _ _ _ _ (List.mem_range.mp hk)]
  have hlast : (ds ++ [d]).getD ds.length 0 = d := by simp
  rw [passCount, passCount, List.length_append, List.length_singleton, List.range_succ, List.filter_append, hsame,
    List.filter_singleton, hlast, List.foldl_append]
  by_cases hd : j ≤ d.natAbs
  · simpa [passCount, hd] using passCount_le ds j
  · simp [hd]

theorem lt_passCount {ds : List Int} {j k : Nat} {d : Int} (hk : ds[k]? = some d) (hd : j ≤ d.natAbs) :
    k < passCount ds j := by
  induction ds using List.reverseRecOn with
  | nil => simp at hk
  | append_singleton ds e ih =>
    have hlt : k < ds.length + 1 := by simpa using (List.getElem?_eq_some_iff.mp hk).1
    rw [passCount_append]
    split
    · exact hlt
    · next he =>
      rcases Nat.lt_or_ge k ds.length with hbelow | hge
      · exact ih (by rwa [List.getElem?_append_left hbelow] at hk)
      · obtain rfl : k = ds.length := by omega
        have hde : e = d := by simpa using hk
        exact absurd (hde ▸ hd) he

theorem passCount_map_leftOver (ds : List Int) {j : Nat} (hj : 1 ≤ j) :
    passCount (ds.map leftOver) j = passCount ds (j + 1) := by
  induction ds using List.reverseRecOn with
  | nil => rfl
  | append_singleton ds d ih =>
    have hiff : j ≤ d.natAbs - 1 ↔ j + 1 ≤ d.natAbs := by omega
    simp only [List.map_append, List.map_cons, List.map_nil, passCount_append, natAbs_leftOver, hiff, ih,
      List.length_map]

theorem passCount_of_zero {ds : List Int} (h : ∀ d ∈ ds, d = 0) : passCount ds 1 = 1 := by
  induction ds using List.reverseRecOn with
  | nil => rfl
  | append_singleton ds d ih =>
    obtain ⟨hds, hd⟩ := List.forall_mem_append.mp h
    rw [passCount_append, if_neg (by simpa using hd), ih hds]

/-! ### The pin events of a move (R109) -/

/-- The first pass is the only one if nothing is to move, and else the others follow. -/
theorem movePins_eq (c : Config) (n : Idx) (pos : List Counter) (ds : List Int) : movePins c n pos ds =
    framePins c n (countersAfter pos ds 1) (BitVec.ofNat 16 (passCount ds 1)) ++
      if largest ds = 0 then [] else movePins c n (countersAfter pos ds 1) (ds.map leftOver) := by
  rw [movePins, List.range_succ_eq_map, List.flatMap_cons, List.flatMap_map]
  congr 1
  split
  · next hzero => rw [hzero]; rfl
  · next hne =>
    rw [movePins, largest_map_leftOver, Nat.sub_one_add_one hne]
    simp only [countersAfter_succ, passCount_map_leftOver ds (Nat.le_add_left 1 _), Nat.succ_eq_add_one]

end Sys2Proof.Machine
end

section
/-! PROOF. One pass of a MOVE_MANY or HOME (44_motion.md R97, R105 to R107): motor by motor, then its frame request. -/

namespace Sys2Proof.Machine

/-! ### The displacements of a pass -/

/-- What the motors of the pass have still to move: their remaining deltas, or their way to zero (R106, R107). -/
def State.displacements (s : State) : List Int :=
  match s.mode with
  | .many => (s.rem.take s.m.toNat).map s32
  | .home => (s.pos.take s.m.toNat).map fun p => -s32 p

/-- REM once `j` unit steps of the displacements `ds` are taken off it; HOME leaves it alone (R106, R107). -/
def State.remAfter (s : State) (ds : List Int) (j : Nat) : List Counter :=
  match s.mode with
  | .many => countersAfter s.rem (ds.map (- ·)) j
  | .home => s.rem

/-- A pass begins (R103, R104, R108). -/
structure State.PassStart (s : State) : Prop where
  st : s.st = .mmPass
  i : s.i = 0#16
  zc : s.zc = 0#16
  maxch : s.maxch = 0#16

/-- The state `s` of the beginning of a pass once the motors with the displacements `ds`, a beginning of those of the
pass, are handled (R105). -/
def State.passed (s : State) (ds : List Int) : State :=
  { s with
    pos := countersAfter s.pos ds 1, rem := s.remAfter ds 1
    i := BitVec.ofNat 16 ds.length, zc := BitVec.ofNat 16 (ds.count 0), maxch := BitVec.ofNat 16 (passCount ds 1 - 1) }

section
variable {s : State}

theorem displacements_many (h : s.mode = .many) : s.displacements = (s.rem.take s.m.toNat).map s32 := by
  simp [State.displacements, h]

theorem displacements_home (h : s.mode = .home) :
    s.displacements = (s.pos.take s.m.toNat).map fun p => -s32 p := by
  simp [State.displacements, h]

theorem remAfter_many (h : s.mode = .many) (ds : List Int) (j : Nat) :
    s.remAfter ds j = countersAfter s.rem (ds.map (- ·)) j := by
  simp [State.remAfter, h]

theorem remAfter_home (h : s.mode = .home) (ds : List Int) (j : Nat) : s.remAfter ds j = s.rem := by
  simp [State.remAfter, h]

theorem State.PassStart.le_n (hstart : s.PassStart) (hs : s.Inv) : s.m.toNat ≤ s.n.toNat := by
  obtain ⟨-, -, -, hindices⟩ := hs
  exact ((indicesOk_pass (.inl hstart.st)).mp hindices).1

theorem length_displacements (hs : s.Inv) (hstart : s.PassStart) : s.displacements.length = s.m.toNat := by
  have hm := hstart.le_n hs
  obtain ⟨-, hshape, -⟩ := hs
  have hrem := hshape.le_rem hm
  obtain ⟨⟨-, hmax⟩, hpos, -⟩ := hshape
  cases hmode : s.mode with
  | many => simp [displacements_many hmode, hrem]
  | home => simp [displacements_home hmode]; omega

theorem passed_nil (hs : s.PassStart) : s.passed [] = s := by
  obtain ⟨-, hi, hzc, hmaxch⟩ := hs
  have hrem : s.remAfter [] 1 = s.rem := by
    cases hmode : s.mode with
    | many => rw [remAfter_many hmode]; exact countersAfter_of_zero _ (by simp) _
    | home => exact remAfter_home hmode _ _
  rw [State.passed, hrem, countersAfter_of_zero _ (by simp) 1, List.length_nil, List.count_nil,
    passCount_of_zero (by simp)]
  cases s
  cases hi
  cases hzc
  cases hmaxch
  rfl

/-- A motor with nothing to move is counted in ZC (R106, R107). -/
theorem passed_append_zero (s : State) (ds : List Int) : s.passed (ds ++ [0]) =
    { s.passed ds with i := (s.passed ds).i + 1#16, zc := (s.passed ds).zc + 1#16 } := by
  have hrem : s.remAfter (ds ++ [0]) 1 = s.remAfter ds 1 := by
    cases hmode : s.mode with
    | many => simp [remAfter_many hmode, countersAfter_append_zero]
    | home => simp [remAfter_home hmode]
  simp [State.passed, hrem, countersAfter_append_zero, passCount_append, BitVec.ofNat_add]

/-- Any other motor steps once, and is the highest changed one so far (R106, R107). -/
theorem passed_append_ne_zero (s : State) (ds : List Int) {d : Int} (hd : d ≠ 0) {p : Counter}
    (hp : s.pos[ds.length]? = some p) : s.passed (ds ++ [d]) =
    { s.passed ds with
      i := (s.passed ds).i + 1#16, maxch := (s.passed ds).i, rem := s.remAfter (ds ++ [d]) 1
      pos := (s.passed ds).pos.set ds.length (wrap32 (s32 p + workedOff d 1)) } := by
  have hlast : 1 ≤ d.natAbs := Int.natAbs_pos.mpr hd
  have hcount : (ds ++ [d]).count 0 = ds.count 0 := by simp [hd]
  simp [State.passed, countersAfter_append _ _ _ _ hp, passCount_append, hlast, hcount, BitVec.ofNat_add]

/-! ### The cycles of a pass -/

section
variable {ds : List Int} (rest : List Input)

/-- The motor that a pass turns to has not been changed by it. -/
theorem passed_pos_getElem? (s : State) (ds : List Int) : (s.passed ds).pos[ds.length]? = s.pos[ds.length]? :=
  countersAfter_getElem?_of_le _ le_rfl _

theorem passed_rem_getElem? (s : State) (ds : List Int) : (s.passed ds).rem[ds.length]? = s.rem[ds.length]? := by
  cases hmode : s.mode with
  | many =>
    have hle : (ds.map (- ·)).length ≤ ds.length := by simp
    exact (congrArg (·[ds.length]?) (remAfter_many hmode ds 1)).trans (countersAfter_getElem?_of_le _ hle _)
  | home => exact congrArg (·[ds.length]?) (remAfter_home hmode ds 1)

/-- A cycle of a MOVE_MANY pass handles the motor whose remaining delta is `r` (R106). -/
theorem mmPass_passed_many (hmode : s.mode = .many) (hi : (s.passed ds).i.toNat = ds.length)
    (hlt : ds.length < s.m.toNat) {r p : Counter} (hr : s.rem[ds.length]? = some r) (hp : s.pos[ds.length]? = some p) :
    mmPass ((s.passed ds).withInputs rest) = .next ((s.passed (ds ++ [s32 r])).withInputs rest) := by
  have hlt' : (s.passed ds).i.toNat < s.m.toNat := hi.trans_lt hlt
  have hr' : (s.passed ds).rem[(s.passed ds).i.toNat]? = some r := by rw [hi, passed_rem_getElem?, hr]
  have hp' : (s.passed ds).pos[(s.passed ds).i.toNat]? = some p := by rw [hi, passed_pos_getElem?, hp]
  by_cases hzero : s32 r = 0
  · rw [mmPass_many_of_zero (s := (s.passed ds).withInputs rest) hlt' hmode hr' hzero, hzero, passed_append_zero]
    rfl
  · have hrem : s.remAfter (ds ++ [s32 r]) 1 =
        (s.passed ds).rem.set ds.length (wrap32 (s32 r - workedOff (s32 r) 1)) := by
      have hr : s.rem[(ds.map (- ·)).length]? = some r := by rwa [List.length_map]
      have hset := countersAfter_append s.rem (ds.map (- ·)) (-s32 r) 1 hr
      rw [List.length_map, workedOff_neg, ← remAfter_many hmode ds 1] at hset
      rw [remAfter_many hmode, List.map_append]
      exact hset
    rw [mmPass_many_of_ne_zero (s := (s.passed ds).withInputs rest) hlt' hmode hr' hp' hzero,
      passed_append_ne_zero s ds hzero hp, hrem, unitStep_eq_workedOff hzero, ← hi]
    rfl

/-- A cycle of a HOME pass handles the motor whose counter is `p` (R107). -/
theorem mmPass_passed_home (hmode : s.mode = .home) (hi : (s.passed ds).i.toNat = ds.length)
    (hlt : ds.length < s.m.toNat) {p : Counter} (hp : s.pos[ds.length]? = some p) :
    mmPass ((s.passed ds).withInputs rest) = .next ((s.passed (ds ++ [-s32 p])).withInputs rest) := by
  have hlt' : (s.passed ds).i.toNat < s.m.toNat := hi.trans_lt hlt
  have hp' : (s.passed ds).pos[(s.passed ds).i.toNat]? = some p := by rw [hi, passed_pos_getElem?, hp]
  by_cases hzero : s32 p = 0
  · rw [mmPass_home_of_zero (s := (s.passed ds).withInputs rest) hlt' hmode hp' hzero, hzero, Int.neg_zero,
      passed_append_zero]
    rfl
  · rw [mmPass_home_of_ne_zero (s := (s.passed ds).withInputs rest) hlt' hmode hp' hzero,
      passed_append_ne_zero s ds (Int.neg_ne_zero.mpr hzero) hp, workedOff_neg, ← Int.sub_eq_add_neg,
      unitStep_eq_workedOff hzero, remAfter_home hmode, ← remAfter_home hmode ds 1, ← hi]
    rfl

end

/-- A cycle of a pass handles the next motor (R105). -/
theorem mmPass_passed (hs : s.Inv) (hstart : s.PassStart) {k : Nat} (hk : k < s.m.toNat) (rest : List Input) :
    mmPass ((s.passed (s.displacements.take k)).withInputs rest) =
      .next ((s.passed (s.displacements.take (k + 1))).withInputs rest) := by
  have hm := hstart.le_n hs
  have hdisp := length_displacements hs hstart
  obtain ⟨-, hshape, -⟩ := hs
  have hlen : (s.displacements.take k).length = k := by rw [List.length_take, hdisp]; omega
  have hi : (s.passed (s.displacements.take k)).i.toNat = (s.displacements.take k).length := by
    have hsmall : k < 2 ^ 16 := hk.trans s.m.isLt
    exact Nat.mod_eq_of_lt (by rw [hlen]; exact hsmall)
  have hpos := List.getElem?_eq_getElem (hshape.lt_pos (hk.trans_le hm))
  have hrem := List.getElem?_eq_getElem (Nat.lt_of_lt_of_le hk (hshape.le_rem hm))
  rw [List.take_succ_eq_append_getElem (hdisp ▸ hk)]
  cases hmode : s.mode with
  | many =>
    have hd : s.displacements[k] = s32 s.rem[k] := by simp [displacements_many hmode]
    rw [hd]
    exact mmPass_passed_many rest hmode hi (by rwa [hlen]) (by rwa [hlen]) (by rwa [hlen])
  | home =>
    have hd : s.displacements[k] = -s32 s.pos[k] := by simp [displacements_home hmode]
    rw [hd]
    exact mmPass_passed_home rest hmode hi (by rwa [hlen]) (by rwa [hlen])

/-! ### The whole pass -/

/-- `s`, the beginning of a pass, once the pass has requested its frame (R105). -/
def State.passDone (s : State) : State :=
  (s.passed s.displacements).requestFrame (BitVec.ofNat 16 (passCount s.displacements 1)) .mmCheck

theorem maxch_passed_add_one (s : State) (ds : List Int) :
    (s.passed ds).maxch + 1#16 = BitVec.ofNat 16 (passCount ds 1) := by
  have hpred : passCount ds 1 - 1 + 1 = passCount ds 1 := rfl
  rw [← hpred, BitVec.ofNat_add]
  rfl

/-- A cycle of a quiet run: the state's rule, once the listed sample is taken. -/
theorem stepsTo_one_of_drop {t u : State} {k : Nat} (hcfg : t.cfg.WellFormed) (hq : s.Quiet (k + 1))
    (hcycle : ∀ x : Input, x.rst = false → cycle x (t.withInputs (s.inputs.drop (k + 1))) = .next u) :
    stepsTo 1 (t.withInputs (s.inputs.drop k)) = .next u := by
  obtain ⟨x, rest, hin, hrst, hstep, -⟩ := step_quiet (s := t.withInputs (s.inputs.drop k)) hcfg (hq.drop rfl)
  have hin : s.inputs.drop k = x :: rest := hin
  have hrest : s.inputs.drop (k + 1) = rest := by rw [← List.tail_drop, hin, List.tail_cons]
  exact stepsTo_one (hstep.trans (hrest ▸ hcycle x hrst))

theorem stepsTo_passed (hs : s.Inv) (hstart : s.PassStart) {k : Nat} (hk : k ≤ s.m.toNat) (hq : s.Quiet k) :
    stepsTo k s = .next ((s.passed (s.displacements.take k)).withInputs (s.inputs.drop k)) := by
  induction k with
  | zero => rw [List.take_zero, passed_nil hstart]; rfl
  | succ k ih =>
    refine stepsTo_trans (ih (Nat.le_of_succ_le hk) (hq.mono k.le_succ)) ?_
    refine stepsTo_one_of_drop (t := s.passed (s.displacements.take k)) hs.1 hq fun x hrst => ?_
    exact (cycle_mmPass hrst (by exact hstart.st)).trans (mmPass_passed hs hstart hk _)

/-- A pass takes one cycle for each motor and one for the frame request (R105, R157). -/
theorem stepsTo_pass (hs : s.Inv) (hstart : s.PassStart) (hq : s.Quiet (s.m.toNat + 1)) :
    stepsTo (s.m.toNat + 1) s = .next (s.passDone.withInputs (s.inputs.drop (s.m.toNat + 1))) := by
  have hlen := length_displacements hs hstart
  have hall : s.displacements.take s.m.toNat = s.displacements := List.take_of_length_le hlen.le
  have hi : (s.passed s.displacements).i = s.m := by simp [State.passed, hlen]
  have hend : ¬ (s.passed s.displacements).i.toNat < s.m.toNat := by rw [hi]; exact Nat.lt_irrefl _
  refine stepsTo_trans (stepsTo_passed hs hstart le_rfl (hq.mono (Nat.le_succ _))) ?_
  rw [hall]
  refine stepsTo_one_of_drop (t := s.passed s.displacements) hs.1 hq fun x hrst => ?_
  rw [State.passDone, ← maxch_passed_add_one s]
  exact (cycle_mmPass hrst (by exact hstart.st)).trans 
    (mmPass_frame (s := (s.passed s.displacements).withInputs _) hend)

end

/-! ### What the pass has done -/

section
variable {s : State}

theorem count_zero_eq_length_iff (ds : List Int) : ds.count 0 = ds.length ↔ largest ds = 0 := by
  rw [largest_eq_zero_iff, List.count_eq_length]
  exact forall₂_congr fun _ _ => eq_comm

/-- All motors of the pass were counted in ZC exactly if none had anything to move (R108). -/
theorem State.PassStart.zc_passDone_iff (hstart : s.PassStart) (hs : s.Inv) :
    s.passDone.zc = s.m ↔ largest s.displacements = 0 := by
  have hlen := length_displacements hs hstart
  have hle : s.displacements.count 0 ≤ s.m.toNat := hlen ▸ List.count_le_length
  have hzc : s.passDone.zc.toNat = s.displacements.count 0 := Nat.mod_eq_of_lt (hle.trans_lt s.m.isLt)
  rw [← BitVec.toNat_inj, hzc, ← count_zero_eq_length_iff, hlen]

theorem State.PassStart.toNat_maxch_passDone (hstart : s.PassStart) (hs : s.Inv) :
    s.passDone.maxch.toNat = passCount s.displacements 1 - 1 := by
  have hle := passCount_le s.displacements 1
  have hlen := length_displacements hs hstart
  have hlt := s.m.isLt
  exact Nat.mod_eq_of_lt (by omega)

/-- One unit step at most (R97). -/
theorem wrap32_workedOff_one_cases (p : Counter) (d : Int) : wrap32 (s32 p + workedOff d 1) = p ∨
    wrap32 (s32 p + workedOff d 1) = p + 1#32 ∨ wrap32 (s32 p + workedOff d 1) = p - 1#32 := by
  have hcases : workedOff d 1 = 0 ∨ workedOff d 1 = 1 ∨ workedOff d 1 = -1 := by unfold workedOff; omega
  rcases hcases with h | h | h <;> rw [h]
  · exact .inl (by simp)
  · exact .inr (.inl (wrap32_add_one p))
  · exact .inr (.inr (wrap32_sub_one p))

theorem countersAfter_one_eq_iff {pos : List Counter} {ds : List Int} (hlen : ds.length ≤ pos.length) :
    countersAfter pos ds 1 = pos ↔ ∀ d ∈ ds, d = 0 := by
  refine ⟨fun h d hd => ?_, fun h => countersAfter_of_zero pos h 1⟩
  obtain ⟨k, hk, rfl⟩ := List.getElem_of_mem hd
  have hpos := List.getElem?_eq_getElem (hk.trans_le hlen)
  have hmoved := countersAfter_getElem? pos ds 1 k
  rw [h, hpos, List.getElem?_eq_getElem hk] at hmoved
  exact (wrap32_workedOff_one_eq_iff _ _).mp (Option.some.inj hmoved).symm

/-- Settles O55: the pass leaves the counters after one unit of each displacement. -/
theorem passMovesEachMotorAtMostOnce : Obligations.PassMovesEachMotorAtMostOnce := by
  intro s hs hst hi hzc hmaxch hq
  have hstart : s.PassStart := ⟨hst, hi, hzc, hmaxch⟩
  have hlen := length_displacements hs hstart
  refine ⟨_, stepsTo_pass hs hstart hq, rfl, rfl, (maxch_passed_add_one s _).symm, rfl, rfl,
    length_countersAfter .., fun j p q hp hmoved => ?moved, ?zc⟩
  case moved =>
    have hq : some q = some (wrap32 (s32 p + workedOff (s.displacements[j]?.getD 0) 1)) := by
      rw [← hmoved, ← Option.map_some (f := fun p => wrap32 (s32 p + _)), ← hp]
      exact countersAfter_getElem? ..
    obtain rfl := Option.some.inj hq
    refine ⟨wrap32_workedOff_one_cases .., fun hj => ?above, fun hne => ?changed⟩
    case above => simp [List.getElem?_eq_none (hlen.trans_le hj)]
    case changed =>
      have hd := mt (wrap32_workedOff_one_eq_iff _ _).mpr hne
      cases hdisp : s.displacements[j]? with
      | none => simp [hdisp] at hd
      | some d =>
        have hcount := lt_passCount hdisp (Int.natAbs_pos.mpr (by simpa [hdisp] using hd))
        exact (Nat.le_sub_one_of_lt hcount).trans_eq (hstart.toNat_maxch_passDone hs).symm
  case zc =>
    have hle : s.displacements.length ≤ s.pos.length := by
      have hm := hstart.le_n hs
      obtain ⟨-, ⟨⟨-, hmax⟩, hpos, -⟩, -⟩ := hs
      omega
    exact (hstart.zc_passDone_iff hs).trans ((largest_eq_zero_iff _).trans (countersAfter_one_eq_iff hle).symm)

end

end Sys2Proof.Machine
end

section
/-! PROOF. MOVE_MANY and HOME as a whole (44_motion.md R103, R104, R108 to R110, R114): pass after pass until one
finds nothing to move. -/

namespace Sys2Proof.Machine

/-! ### From one pass to the next -/

/-- The displacements that one unit step leaves, read off the stepped counters (R106, R107). -/
theorem map_s32_take_countersAfter (xs : List Counter) (m : Nat) :
    ((countersAfter xs (((xs.take m).map s32).map (- ·)) 1).take m).map s32 = ((xs.take m).map s32).map leftOver := by
  refine List.ext_getElem? fun k => ?_
  rcases Nat.lt_or_ge k m with hlt | hge
  · cases hx : xs[k]? with
    | none => simp [List.getElem?_take_of_lt hlt, countersAfter_getElem?, hx]
    | some x =>
      have hunit : s32 x + workedOff (-s32 x) 1 = leftOver (s32 x) := by rw [workedOff_neg]; rfl
      simp [List.getElem?_take_of_lt hlt, countersAfter_getElem?, hx, hunit, s32_wrap32_leftOver]
  · simp [Nat.not_lt.mpr hge]

theorem map_neg_leftOver (ds : List Int) : (ds.map leftOver).map (- ·) = (ds.map (- ·)).map leftOver := by
  simp only [List.map_map, Function.comp_def, leftOver_neg]

section
variable {s t u : State}

/-- A pass of the same mode and length that begins where the pass of `s` ends has one unit less to move. -/
theorem displacements_of_passed (hmode : u.mode = s.mode) (hm : u.m = s.m)
    (hpos : u.pos = countersAfter s.pos s.displacements 1) (hrem : u.rem = s.remAfter s.displacements 1) :
    u.displacements = s.displacements.map leftOver := by
  cases hs : s.mode with
  | many =>
    rw [displacements_many (hmode.trans hs), hrem, remAfter_many hs, displacements_many hs, hm]
    exact map_s32_take_countersAfter ..
  | home =>
    have hneg (xs : List Counter) : xs.map (fun p => -s32 p) = (xs.map s32).map (- ·) := by
      rw [List.map_map]; rfl
    rw [displacements_home (hmode.trans hs), hpos, displacements_home hs, hm, hneg, hneg, map_s32_take_countersAfter,
      map_neg_leftOver]

theorem remAfter_of_passed (hmode : u.mode = s.mode) {ds : List Int} (hrem : u.rem = s.remAfter ds 1) (j : Nat) :
    u.remAfter (ds.map leftOver) j = s.remAfter ds (j + 1) := by
  cases hs : s.mode with
  | many =>
    rw [remAfter_many (hmode.trans hs), hrem, remAfter_many hs, remAfter_many hs, map_neg_leftOver, countersAfter_succ]
  | home => rw [remAfter_home (hmode.trans hs), hrem, remAfter_home hs, remAfter_home hs]

/-! ### The run of the passes -/

theorem sameBackground_passDone (s : State) : SameBackground s s.passDone := ⟨rfl, rfl, rfl, rfl, rfl⟩

/-- A run at the beginning of a pass goes on behind the frame of the pass. -/
theorem Finishes.pass (h : Finishes t s) (hs : s.Inv) (hstart : s.PassStart) : ∃ now rest,
    (s.passDone.frameSent now rest).Inv ∧ Finishes t (s.passDone.frameSent now rest) := by
  obtain ⟨hq, hrest⟩ := h.skip hs
  have hleft : s.cyclesLeft = s.m.toNat + 1 := by rw [cyclesLeft_mmPass hstart.st, hstart.i]; rfl
  rw [hleft] at hq hrest
  have hrun := stepsTo_pass hs hstart hq
  exact (hrest _ hrun).frame (stepsTo_invariant stepKeepsInvariant hs hrun) rfl

/-- A run in MM_CHECK ends if the pass moved no motor (R108). -/
theorem Finishes.check_done (h : Finishes t s) (hs : s.Inv) (hst : s.st = .mmCheck) (hzc : s.zc = s.m) :
    ∃ rest, t = (s.withInputs rest).respond .ok 0#32 := by
  obtain ⟨x, rest, u, hrst, hu, -, hrun⟩ := h.next hs (by simp [hst])
  rw [cycle_mmCheck (s := s.withInputs rest) hrst hst, mmCheck_of_eq (s := s.withInputs rest) hzc] at hu
  cases hu
  exact ⟨rest, hrun.eq_of_done rfl⟩

/-- A run in MM_CHECK begins another pass if the last one moved a motor (R108). -/
theorem Finishes.check_again (h : Finishes t s) (hs : s.Inv) (hst : s.st = .mmCheck) (hzc : s.zc ≠ s.m) :
    ∃ rest, (s.startPass.withInputs rest).Inv ∧ Finishes t (s.startPass.withInputs rest) := by
  obtain ⟨x, rest, u, hrst, hu, hinv, hrun⟩ := h.next hs (by simp [hst])
  rw [cycle_mmCheck (s := s.withInputs rest) hrst hst, mmCheck_of_ne (s := s.withInputs rest) hzc] at hu
  cases hu
  exact ⟨rest, hinv, hrun⟩

/-- A run at the beginning of a pass works off all displacements, and one more pass finds nothing to move. -/
theorem Finishes.passes (h : Finishes t s) (hs : s.Inv) (hstart : s.PassStart) :
    t.pos = countersAfter s.pos s.displacements (largest s.displacements + 1) ∧
    t.rem = s.remAfter s.displacements (largest s.displacements + 1) ∧
    MotionDone s t (movePins s.cfg s.n s.pos s.displacements) (largest s.displacements + 1) := by
  obtain ⟨k, hk⟩ : ∃ k, largest s.displacements = k := ⟨_, rfl⟩
  induction k generalizing s with
  | zero =>
    have hzc := (hstart.zc_passDone_iff hs).mpr hk
    obtain ⟨now, rest, hinv, hrun⟩ := h.pass hs hstart
    obtain ⟨rest', rfl⟩ := hrun.check_done hinv rfl hzc
    have hrespond : SameBackground (s.passDone.frameSent now rest) ((s.passDone.frameSent now rest).withInputs rest') :=
      ⟨rfl, rfl, rfl, rfl, rfl⟩
    have hdone := (sameBackground_passDone s).motionDone hrespond.motionDone_respond.of_frameSent
    rw [movePins_eq, if_pos hk, hk]
    exact ⟨rfl, rfl, hdone⟩
  | succ k ih =>
    have hne : largest s.displacements ≠ 0 := by omega
    have hzc := mt (hstart.zc_passDone_iff hs).mp hne
    obtain ⟨now, rest, hinv, hrun⟩ := h.pass hs hstart
    obtain ⟨rest', hinv', hrun'⟩ := hrun.check_again hinv rfl hzc
    have hdisp := displacements_of_passed (s := s) (u := (s.passDone.frameSent now rest).startPass.withInputs rest')
      rfl rfl rfl rfl
    have hrem := remAfter_of_passed (s := s) (u := (s.passDone.frameSent now rest).startPass.withInputs rest')
      rfl rfl
    have hagain : SameBackground (s.passDone.frameSent now rest)
      ((s.passDone.frameSent now rest).startPass.withInputs rest') := ⟨rfl, rfl, rfl, rfl, rfl⟩
    have hleft : largest (s.displacements.map leftOver) = k := by rw [largest_map_leftOver, hk, Nat.add_sub_cancel]
    obtain ⟨htpos, htrem, hdone⟩ := ih hrun' hinv' ⟨rfl, rfl, rfl, rfl⟩ (hdisp ▸ hleft)
    rw [hdisp, hleft] at htpos htrem hdone
    rw [movePins_eq, if_neg hne, hk]
    refine ⟨htpos.trans (countersAfter_succ ..), htrem.trans (hrem _), ?_⟩
    exact (sameBackground_passDone s).motionDone (hagain.motionDone hdone).of_frameSent

/-! ### The two commands -/

/-- `s` once MOVE_MANY is accepted (R103). -/
def State.manyStart (s : State) (len : Idx) : State :=
  { s with
    rem := copyDeltas s.dbuf s.rem len.toNat, mode := .many, m := len
    i := 0#16, zc := 0#16, maxch := 0#16, st := .mmPass }

/-- `s` once HOME is accepted (R104). -/
def State.homeStart (s : State) : State :=
  { s with mode := .home, m := s.n, i := 0#16, zc := 0#16, maxch := 0#16, st := .mmPass }

theorem displacements_manyStart {len : Idx} (hs : s.ShapeOk) (hlen : len.toNat ≤ s.n.toNat) :
    (s.manyStart len).displacements = (s.dbuf.take len.toNat).map s32 := by
  have htake : (copyDeltas s.dbuf s.rem len.toNat).take len.toNat = s.dbuf.take len.toNat :=
    List.take_left' (by rw [List.length_take, Nat.min_eq_left (hs.le_dbuf hlen)])
  rw [displacements_many rfl, ← htake]
  rfl

/-- The run of a MOVE_MANY of length `len` works off the first `len` deltas of DBUF (R103, R109). -/
theorem Finishes.moveMany {len : Idx} (h : Finishes t s) (hs : s.Inv) (hst : s.st = .idle)
    (hlen : len.toNat ≤ s.n.toNat) (hoffers : s.Offers (encode (.moveMany len))) {ds : List Int}
    (hds : (s.dbuf.take len.toNat).map s32 = ds) :
    t.pos = countersAfter s.pos ds (largest ds + 1) ∧
    t.rem = countersAfter (copyDeltas s.dbuf s.rem len.toNat) (ds.map (- ·)) (largest ds + 1) ∧
    MotionDone s t (movePins s.cfg s.n s.pos ds) (largest ds + 1) := by
  have ⟨_, hshape, _⟩ := hs
  obtain ⟨rest, u, hu, hinv, hrun⟩ := h.accepted hs hst hoffers
  rw [exec_moveMany, execMoveMany_of_le (s := s.withInputs rest) hshape hlen] at hu
  obtain rfl : (s.withInputs rest).manyStart len = u := Host.Outcome.next.inj hu
  have hdisp := (displacements_manyStart (s := s.withInputs rest) hshape hlen).trans hds
  have hsame : SameBackground s ((s.withInputs rest).manyStart len) := ⟨rfl, rfl, rfl, rfl, rfl⟩
  obtain ⟨hpos, hrem, hdone⟩ := hrun.passes hinv ⟨rfl, rfl, rfl, rfl⟩
  rw [hdisp] at hpos hrem hdone
  exact ⟨hpos, hrem, hsame.motionDone hdone⟩

/-- The run of a HOME works off the way of every motor to zero (R104, R110). -/
theorem Finishes.home (h : Finishes t s) (hs : s.Inv) (hst : s.st = .idle) (hoffers : s.Offers (encode .home))
    {ds : List Int} (hds : ((s.pos.take s.n.toNat).map fun p => -s32 p) = ds) :
    t.pos = countersAfter s.pos ds (largest ds + 1) ∧
    MotionDone s t (movePins s.cfg s.n s.pos ds) (largest ds + 1) := by
  obtain ⟨rest, u, hu, hinv, hrun⟩ := h.accepted hs hst hoffers
  rw [exec_home] at hu
  obtain rfl := execHome_next hu
  have hdisp : (s.withInputs rest).homeStart.displacements = ds := (displacements_home rfl).trans hds
  have hsame : SameBackground s (s.withInputs rest).homeStart := ⟨rfl, rfl, rfl, rfl, rfl⟩
  obtain ⟨hpos, -, hdone⟩ := Finishes.passes (s := (s.withInputs rest).homeStart) hrun hinv ⟨rfl, rfl, rfl, rfl⟩
  rw [hdisp] at hpos hdone
  exact ⟨hpos, hsame.motionDone hdone⟩

/-! ### The net effects -/

/-- After the last pass a motor has moved by its displacement. -/
theorem countersAfter_largest_getElem? (pos : List Counter) (ds : List Int) (k : Nat) :
    (countersAfter pos ds (largest ds + 1))[k]? = (pos[k]?).map fun p => wrap32 (s32 p + ds[k]?.getD 0) := by
  have hall : workedOff (ds[k]?.getD 0) (largest ds + 1) = ds[k]?.getD 0 := by
    apply workedOff_of_le
    cases hd : ds[k]? with
    | none => simp
    | some d => exact (natAbs_le_largest (List.mem_of_getElem? hd)).trans (Nat.le_succ _)
  rw [countersAfter_getElem?, hall]

/-- Settles O53: the passes work off the deltas that the acceptance copied. -/
theorem moveManyNetEffect : Obligations.MoveManyNetEffect := by
  intro s t k len hs hst hq hoffers hlen hcompletes
  have ⟨_, hshape, _⟩ := hs
  have hdbuf := hshape.le_dbuf hlen
  obtain ⟨hpos, hrem, hdone⟩ :=
    (finishes_of_completesAt hq hcompletes (by simp [hst])).moveMany hs hst hlen hoffers rfl
  refine ⟨fun j => ?pos, fun j hj => ?rem, hdone.pins, hdone.opens, hdone.status, hdone.data, hdone.n, hdone.dbuf,
    hdone.stepDelay⟩
  case pos =>
    rw [hpos, countersAfter_largest_getElem?, List.getElem?_map]
    split
    · next hj =>
      have hd := List.getElem?_eq_getElem (Nat.lt_of_lt_of_le hj hdbuf)
      cases hp : s.pos[j]? <;> simp [List.getElem?_take_of_lt hj, hd, wrap32_s32_add]
    · next hj => simp [hj]
  case rem =>
    have hd := List.getElem?_eq_getElem (Nat.lt_of_lt_of_le hj hdbuf)
    rw [hrem, ← largest_map_neg, countersAfter_largest_getElem?, copyDeltas_getElem? hdbuf hj]
    simp [List.getElem?_take_of_lt hj, hd, wrap32]

/-- Settles O54: the passes work off the way of every motor to zero. -/
theorem homeNetEffect : Obligations.HomeNetEffect := by
  intro s t k hs hst hq hoffers hcompletes
  have ⟨_, hshape, _⟩ := hs
  obtain ⟨hpos, hdone⟩ := (finishes_of_completesAt hq hcompletes (by simp [hst])).home hs hst hoffers rfl
  have hlargest : largest ((s.pos.take s.n.toNat).map fun p => -s32 p) = largest ((s.pos.take s.n.toNat).map s32) := by
    rw [← largest_map_neg ((s.pos.take s.n.toNat).map s32), List.map_map]
    rfl
  refine ⟨fun j => ?pos, hdone.pins, hlargest ▸ hdone.opens, hdone.status, hdone.data, hdone.n, hdone.dbuf,
    hdone.stepDelay⟩
  rw [hpos, countersAfter_largest_getElem?, List.getElem?_map]
  split
  · next hj =>
    have hp := List.getElem?_eq_getElem (hshape.lt_pos hj)
    simp [List.getElem?_take_of_lt hj, hp, wrap32]
  · next hj => simp [hj]

/-- With no displacement the one pass changes no counter and requests a frame of active count 1 (R114). -/
theorem motionDone_of_zero {ds : List Int} (hds : ∀ d ∈ ds, d = 0)
    (hpos : t.pos = countersAfter s.pos ds (largest ds + 1))
    (hdone : MotionDone s t (movePins s.cfg s.n s.pos ds) (largest ds + 1)) :
    t.pos = s.pos ∧ MotionDone s t (framePins s.cfg s.n s.pos 1#16) 1 := by
  have hzero := (largest_eq_zero_iff ds).mpr hds
  rw [movePins_eq, if_pos hzero, hzero, countersAfter_of_zero _ hds, passCount_of_zero hds, List.append_nil] at hdone
  exact ⟨hpos.trans (countersAfter_of_zero _ hds _), hdone⟩

/-- Settles O59: both commands have no displacement. -/
theorem allZeroMoveSendsOneFrame : Obligations.AllZeroMoveSendsOneFrame := by
  intro s t k hs hst hq hcompletes hcommand
  have hrun := finishes_of_completesAt hq hcompletes (by simp [hst])
  obtain ⟨hpos, hdone⟩ : t.pos = s.pos ∧ MotionDone s t (framePins s.cfg s.n s.pos 1#16) 1 := by
    rcases hcommand with ⟨hoffers, hzero⟩ | ⟨len, hlen, hoffers, hzero⟩
    · obtain ⟨hpos, hdone⟩ := hrun.home hs hst hoffers rfl
      refine motionDone_of_zero (List.forall_mem_map.mpr fun p hp => ?_) hpos hdone
      rw [hzero p hp, s32_zero, Int.neg_zero]
    · obtain ⟨hpos, -, hdone⟩ := hrun.moveMany hs hst hlen hoffers rfl
      refine motionDone_of_zero (List.forall_mem_map.mpr fun d hd => ?_) hpos hdone
      rw [hzero d hd, s32_zero]
  obtain ⟨opens, hopens, hlen⟩ := hdone.opens
  exact ⟨hpos, hdone.pins, by rw [hopens, List.length_append, hlen], hdone.status⟩

end

end Sys2Proof.Machine
end

section
/-! PROOF. Termination (44_motion.md R112): each cycle of a command in progress that is no wait in GATE brings it
nearer to DONE. -/

namespace Sys2Proof.Machine

/-! ### What is left to do -/

/-- The unit steps that a pass has before it, all motors together (R106, R107). -/
def State.unitsLeft (s : State) : Nat :=
  match s.mode with
  | .many => (s.rem.map fun d => (s32 d).natAbs).sum
  | .home => (s.pos.map fun p => (s32 p).natAbs).sum

/-- What a command has still to do when a frame of it returns to `r`: unit steps, where a pass counts each twice and
one more if the exit test is to fail (R99, R108). -/
def State.workFrom (s : State) : Ret → Nat
  | .moStep => (s32 s.moRem).natAbs
  | .mmCheck => 2 * s.unitsLeft + if s.zc = s.m then 0 else 1

/-- What the command in progress has still to do. In a pass, ZC behind I says that the exit test is to fail (R105). -/
def State.workLeft (s : State) : Nat :=
  match s.st with
  | .idle | .done => 0
  | .moStep => s.workFrom .moStep
  | .mmCheck => s.workFrom .mmCheck
  | .mmPass => 2 * s.unitsLeft + if s.zc = s.i then 0 else 1
  | _ => s.workFrom s.ret

/-- How far a round of the command is from its end: a pass, then the gate, then the frame. -/
def State.stage (s : State) : Nat :=
  match s.st with
  | .mmPass => 3
  | .gate => 2
  | .latchLo | .load | .clkLo | .dataSet | .clkHi | .latchHi | .latchEnd => 1
  | .idle | .done | .moStep | .mmCheck => 0

/-- The distance to DONE: the work, then the stage of the round, then the cycles of the stage. -/
def State.rank (s : State) : ℕ ×ₗ ℕ ×ₗ ℕ := toLex (s.workLeft, toLex (s.stage, s.cyclesLeft))

/-- One unit toward zero is one unit less. -/
theorem natAbs_toward_zero_lt {d : Counter} (h : s32 d ≠ 0) :
    (s32 (wrap32 (s32 d - unitStep d))).natAbs < (s32 d).natAbs := by
  rw [s32_toward_zero]
  unfold unitStep
  split <;> omega

theorem sum_map_set_lt {xs : List Counter} {k : Nat} {x y : Counter} (f : Counter → Nat) (hx : xs[k]? = some x)
    (h : f y < f x) : ((xs.set k y).map f).sum < (xs.map f).sum := by
  induction xs generalizing k with
  | nil => simp at hx
  | cons z zs ih =>
    cases k with
    | zero =>
      obtain rfl : z = x := by simpa using hx
      simpa using h
    | succ k => simpa using ih (by simpa using hx)

section
variable {s t : State}

theorem rank_lt_of_work (h : t.workLeft < s.workLeft) : t.rank < s.rank := Prod.Lex.toLex_lt_toLex.mpr (.inl h)

theorem rank_lt_of_stage (hwork : t.workLeft = s.workLeft) (h : t.stage < s.stage) : t.rank < s.rank :=
  Prod.Lex.toLex_lt_toLex.mpr (.inr ⟨hwork, Prod.Lex.toLex_lt_toLex.mpr (.inl h)⟩)

theorem rank_lt_of_cycles (hwork : t.workLeft = s.workLeft) (hstage : t.stage = s.stage)
    (h : t.cyclesLeft < s.cyclesLeft) : t.rank < s.rank :=
  Prod.Lex.toLex_lt_toLex.mpr (.inr ⟨hwork, Prod.Lex.toLex_lt_toLex.mpr (.inr ⟨hstage, h⟩)⟩)

/-! ### One cycle -/

theorem workLeft_moStep (h : s.st = .moStep) : s.workLeft = (s32 s.moRem).natAbs := by
  simp [State.workLeft, State.workFrom, h]

theorem workLeft_mmPass (h : s.st = .mmPass) : s.workLeft = 2 * s.unitsLeft + if s.zc = s.i then 0 else 1 := by
  simp [State.workLeft, h]

theorem workLeft_mmCheck (h : s.st = .mmCheck) : s.workLeft = 2 * s.unitsLeft + if s.zc = s.m then 0 else 1 := by
  simp [State.workLeft, State.workFrom, h]

theorem workLeft_inFrame (h : s.st.inFrame = true) : s.workLeft = s.workFrom s.ret := by
  cases hst : s.st <;> simp_all [State.workLeft, Fsm.inFrame]

theorem stage_eq_one_iff : s.stage = 1 ↔ s.st.inFrame = true ∧ s.st ≠ .gate := by
  cases hst : s.st <;> simp [State.stage, Fsm.inFrame, hst]

/-- The command has completed, or is nearer to its completion. -/
def Nearer (s t : State) : Prop := t.st = .done ∨ (t.st ≠ .idle ∧ t.rank < s.rank)

/-- A unit step of MO_STEP is work done (R99). -/
theorem moStep_nearer (hst : s.st = .moStep) (h : moStep s = .next t) : Nearer s t := by
  rcases moStep_next h with ⟨-, rfl⟩ | ⟨hne, p, -, rfl⟩
  · exact .inl rfl
  · refine .inr ⟨nofun, rank_lt_of_work ?_⟩
    rw [workLeft_moStep hst]
    exact natAbs_toward_zero_lt hne

/-- A unit step of a pass is work done, though the exit test fails for it (R105, R108). -/
theorem rank_lt_of_unit (hst : s.st = .mmPass) (ht : t.st = .mmPass) (h : t.unitsLeft < s.unitsLeft) :
    t.rank < s.rank := by
  refine rank_lt_of_work ?_
  rw [workLeft_mmPass hst, workLeft_mmPass ht]
  split <;> omega

/-- Each cycle of a pass is a unit step, or one motor less of this pass, or its end (R105). -/
theorem mmPass_nearer (hpass : s.PassOk) (hst : s.st = .mmPass) (h : mmPass s = .next t) : Nearer s t := by
  have hcount := mmPass_cyclesLeft hst h
  have hzero (ht : t = { s with i := s.i + 1#16, zc := s.zc + 1#16 }) : Nearer s t := by
    have htst : t.st = .mmPass := by rw [ht]; exact hst
    refine .inr ⟨by simp [htst], rank_lt_of_cycles ?_ (by simp [State.stage, hst, htst]) (by omega)⟩
    rw [workLeft_mmPass hst, workLeft_mmPass htst, ht]
    simp only [BitVec.add_left_inj]
    rfl
  rcases mmPass_next h with ⟨-, hmode, h⟩ | ⟨-, hmode, h⟩ | ⟨hge, rfl⟩
  · obtain ⟨r, hr, ⟨-, ht⟩ | ⟨hne, p, -, rfl⟩⟩ := updateMany_next h
    · exact hzero ht
    · refine .inr ⟨by simp [hst], rank_lt_of_unit hst hst ?_⟩
      simpa [State.unitsLeft, hmode] using sum_map_set_lt _ hr (natAbs_toward_zero_lt hne)
  · obtain ⟨p, hp, ⟨-, ht⟩ | ⟨hne, rfl⟩⟩ := updateHome_next h
    · exact hzero ht
    · refine .inr ⟨by simp [hst], rank_lt_of_unit hst hst ?_⟩
      simpa [State.unitsLeft, hmode] using sum_map_set_lt _ hp (natAbs_toward_zero_lt hne)
  · obtain ⟨-, hi, -⟩ := hpass
    have him : s.i = s.m := BitVec.eq_of_toNat_eq (Nat.le_antisymm hi hge)
    refine .inr ⟨nofun, rank_lt_of_stage ?_ (by simp [State.stage, hst])⟩
    rw [workLeft_mmPass hst, him]
    rfl

/-- The exit test ends the command, or uses up that it failed: the next pass begins with ZC = I (R108). -/
theorem mmCheck_nearer (hst : s.st = .mmCheck) (h : mmCheck s = .next t) : Nearer s t := by
  rcases mmCheck_next h with ⟨-, rfl⟩ | ⟨hne, rfl⟩
  · exact .inl rfl
  · refine .inr ⟨nofun, rank_lt_of_work ?_⟩
    rw [workLeft_mmCheck hst, workLeft_mmPass rfl, if_neg hne]
    exact Nat.lt_succ_self _

theorem gateOpen_nearer (hst : s.st = .gate) (now : Time) :
    Nearer s { s with last := now, st := .latchLo, gateOpens := s.gateOpens ++ [now] } := by
  refine .inr ⟨nofun, rank_lt_of_stage ?_ (by simp [State.stage, hst])⟩
  rw [workLeft_inFrame (s := s) (by simp [hst, Fsm.inFrame])]
  rfl

/-- A frame carries the work of its command to the state that it returns to (R81). -/
theorem Advances.keeps_work {now : Time} (h : Advances now s t) (hstage : s.stage = 1) :
    t.st ≠ .idle ∧ t.workLeft = s.workLeft ∧ t.stage ≤ 1 := by
  obtain ⟨hframe, hgate⟩ := stage_eq_one_iff.mp hstage
  rw [workLeft_inFrame hframe]
  cases h with
  | latchEnd => cases hret : s.ret <;> simp [retState, State.workLeft, State.stage] <;> rfl
  | latchLo | load | clkLo | dataSet | nextBit | nextMotor | lastMotor | latchHi => exact ⟨nofun, rfl, le_rfl⟩
  | gateWait hst | gateOpen hst => exact absurd hst hgate
  | finish hst | moveOneDone hst | moveOneStep hst | passZero hst | passMany hst | passHome hst | passFrame hst
  | checkDone hst | checkAgain hst => simp [hst, Fsm.inFrame] at hframe

theorem cyclesLeft_ne_zero (hs : s.Inv) (hstage : s.stage = 1) : s.cyclesLeft ≠ 0 := by
  cases hst : s.st with
  | idle | done | moStep | mmPass | mmCheck | gate => simp [State.stage, hst] at hstage
  | clkHi =>
    obtain ⟨-, -, -, hindices⟩ := hs
    obtain ⟨-, -, hbi⟩ := (indicesOk_bit (.inr (.inr hst))).mp hindices
    rw [cyclesLeft_clkHi hst]
    omega
  | latchLo | load | clkLo | dataSet | latchHi | latchEnd => simp [State.cyclesLeft, frameCycles, hst]

/-- A cycle of a frame is one cycle less of it (R157). -/
theorem frame_nearer {x : Input} (hs : s.Inv) (hrst : x.rst = false) (hstage : s.stage = 1)
    (h : cycle x s = .next t) : Nearer s t := by
  have hcount := cycle_cyclesLeft hs hrst h (cyclesLeft_ne_zero hs hstage)
  have hidle : s.st ≠ .idle := fun hst => by simp [State.stage, hst] at hstage
  rcases cycle_advances h hrst with rfl | ⟨hst, -⟩ | ⟨hst, -⟩ | hadv
  · omega
  · exact absurd hst hidle
  · exact absurd hst hidle
  · obtain ⟨hbusy, hwork, hle⟩ := hadv.keeps_work hstage
    refine .inr ⟨hbusy, ?_⟩
    rcases hle.lt_or_eq with hlt | heq
    · exact rank_lt_of_stage hwork (hlt.trans_eq hstage.symm)
    · exact rank_lt_of_cycles hwork (heq.trans hstage.symm) (by omega)

/-- Every cycle of a command in progress brings it nearer to DONE, unless it waits in GATE. -/
theorem cycle_nearer {x : Input} (hs : s.Inv) (hrst : x.rst = false) (hidle : s.st ≠ .idle) (hdone : s.st ≠ .done)
    (hgate : s.st = .gate → s.stepDelay.toNat ≤ (x.now - s.last).toNat) (h : cycle x s = .next t) : Nearer s t := by
  have ⟨_, _, _, hindices⟩ := hs
  cases hst : s.st with
  | idle => exact absurd hst hidle
  | done => exact absurd hst hdone
  | moStep => exact moStep_nearer hst (by rwa [cycle_moStep hrst hst] at h)
  | mmPass => exact mmPass_nearer ((indicesOk_pass (.inl hst)).mp hindices) hst (by rwa [cycle_mmPass hrst hst] at h)
  | mmCheck => exact mmCheck_nearer hst (by rwa [cycle_mmCheck hrst hst] at h)
  | gate =>
    rw [cycle_gate hrst hst, gate_opens (hgate hst)] at h
    cases h
    exact gateOpen_nearer hst x.now
  | latchLo | load | clkLo | dataSet | clkHi | latchHi | latchEnd =>
    exact frame_nearer hs hrst (by simp [State.stage, hst]) h

end

/-! ### Runs on an endless supply of samples -/

/-- `r'` answers as `r` does, but with the samples `rest` listed. -/
def WithInputsFollows (rest : List Input) (r r' : Result) : Prop := ∀ t, r = .next t → r' = .next (t.withInputs rest)

section
variable {rest : List Input}

theorem WithInputsFollows.next (t : State) : WithInputsFollows rest (.next t) (.next (t.withInputs rest)) :=
  fun _ ht => by cases ht; rfl

theorem WithInputsFollows.ite {c : Prop} [Decidable c] {a a' b b' : Result} (ha : WithInputsFollows rest a a')
    (hb : WithInputsFollows rest b b') : WithInputsFollows rest (if c then a else b) (if c then a' else b') := by
  by_cases h : c
  · rwa [if_pos h, if_pos h]
  · rwa [if_neg h, if_neg h]

theorem WithInputsFollows.withEntry {xs : List Counter} {k : Idx} {g g' : Counter → Result}
    (h : ∀ v, WithInputsFollows rest (g v) (g' v)) :
    WithInputsFollows rest (withEntry xs k g) (withEntry xs k g') := by
  intro t ht
  obtain ⟨v, hv, ht⟩ := withEntry_next ht
  have ht' := h v t ht
  simpa [Machine.withEntry, hv] using ht'

theorem mmPass_withInputsFollows (s : State) : WithInputsFollows rest (mmPass s) (mmPass (s.withInputs rest)) := by
  by_cases hlt : s.i.toNat < s.m.toNat
  · cases hmode : s.mode with
    | many =>
      rw [mmPass_many hlt hmode, mmPass_many (s := s.withInputs rest) hlt hmode]
      exact .withEntry fun _ => .ite (.next _) (.withEntry fun _ => .next _)
    | home =>
      rw [mmPass_home hlt hmode, mmPass_home (s := s.withInputs rest) hlt hmode]
      exact .withEntry fun _ => .ite (.next _) (.next _)
  · rw [mmPass_frame hlt, mmPass_frame (s := s.withInputs rest) hlt]
    exact .next _

theorem load_withInputsFollows (s : State) : WithInputsFollows rest (load s) (load (s.withInputs rest)) := by
  intro t ht
  obtain ⟨p, v, hp, hv, rfl⟩ := load_next ht
  exact load_of_phase (s := s.withInputs rest) hp hv

end

/-- Outside IDLE a cycle does not read the samples that are listed for the cycles after it. -/
theorem cycle_withInputs {x : Input} {s t : State} (rest : List Input) (hrst : x.rst = false) (hidle : s.st ≠ .idle)
    (h : cycle x s = .next t) : cycle x (s.withInputs rest) = .next (t.withInputs rest) := by
  have hst' : (s.withInputs rest).st = s.st := rfl
  suffices WithInputsFollows rest (cycle x s) (cycle x (s.withInputs rest)) from this t h
  cases hst : s.st <;> rw [hst] at hst'
  case idle => exact absurd hst hidle
  case done => rw [cycle_done hrst hst, cycle_done hrst hst']; exact .next _
  case moStep =>
    rw [cycle_moStep hrst hst, cycle_moStep hrst hst']
    exact .ite (.next _) (.withEntry fun _ => .next _)
  case mmPass => rw [cycle_mmPass hrst hst, cycle_mmPass hrst hst']; exact mmPass_withInputsFollows s
  case mmCheck => rw [cycle_mmCheck hrst hst, cycle_mmCheck hrst hst']; exact .ite (.next _) (.next _)
  case gate => rw [cycle_gate hrst hst, cycle_gate hrst hst']; exact .ite (.next _) (.next _)
  case latchLo => rw [cycle_latchLo hrst hst, cycle_latchLo hrst hst']; exact .next _
  case load => rw [cycle_load hrst hst, cycle_load hrst hst']; exact load_withInputsFollows s
  case clkLo => rw [cycle_clkLo hrst hst, cycle_clkLo hrst hst']; exact .next _
  case dataSet => rw [cycle_dataSet hrst hst, cycle_dataSet hrst hst']; exact .next _
  case clkHi => rw [cycle_clkHi hrst hst, cycle_clkHi hrst hst']; exact .ite (.next _) (.ite (.next _) (.next _))
  case latchHi => rw [cycle_latchHi hrst hst, cycle_latchHi hrst hst']; exact .next _
  case latchEnd => rw [cycle_latchEnd hrst hst, cycle_latchEnd hrst hst']; exact .next _

section
variable {f : Nat → Input} {s : State}

/-- With the samples of `f` from the `j`-th on, some number of steps from `s` ends in DONE. -/
def Terminates (f : Nat → Input) (j : Nat) (s : State) : Prop :=
  ∃ k t, stepsTo k (s.withInputs ((List.range' j k).map f)) = .next t ∧ t.st = .done

theorem terminates_of_done (j : Nat) (h : s.st = .done) : Terminates f j s := ⟨0, _, rfl, h⟩

/-- A cycle with the first sample, then the run on the others. -/
theorem terminates_of_cycle {t : State} {j : Nat} (hcfg : s.cfg.WellFormed) (hrst : (f j).rst = false)
    (hst : s.st ≠ .idle) (hcycle : cycle (f j) s = .next t) (h : Terminates f (j + 1) t) : Terminates f j s := by
  obtain ⟨k, u, hrun, hdone⟩ := h
  refine ⟨k + 1, u, ?_, hdone⟩
  have hin : (s.withInputs ((List.range' j (k + 1)).map f)).inputs = f j :: (List.range' (j + 1) k).map f := rfl
  have hstep : step (s.withInputs ((List.range' j (k + 1)).map f)) =
      .next (t.withInputs ((List.range' (j + 1) k).map f)) := by
    have hrest := cycle_withInputs ((List.range' (j + 1) k).map f) hrst hst hcycle
    rw [step_eq_cycle (by exact hcfg), nextInput_of_cons hin, dropInput_of_cons hin]
    exact hrest
  rw [stepsTo_succ k hstep, hrun]

/-- A gate that some later sample finds due opens at that sample or before. -/
theorem terminates_of_gate (hs : s.Inv) (hrst : ∀ j, (f j).rst = false) (hst : s.st = .gate)
    (hopen : ∀ j t, s.stepDelay.toNat ≤ ((f j).now - s.last).toNat → cycle (f j) s = .next t → Terminates f (j + 1) t)
    (n j : Nat) (hdue : s.stepDelay.toNat ≤ ((f (j + n)).now - s.last).toNat) : Terminates f j s := by
  have hidle : s.st ≠ .idle := by simp [hst]
  induction n generalizing j with
  | zero =>
    have hcycle := (cycle_gate (hrst j) hst).trans (gate_opens hdue)
    exact terminates_of_cycle hs.1 (hrst j) hidle hcycle (hopen j _ hdue hcycle)
  | succ n ih =>
    rcases Nat.lt_or_ge ((f j).now - s.last).toNat s.stepDelay.toNat with hearly | hdue'
    · have hcycle := (cycle_gate (hrst j) hst).trans (gate_waits hearly)
      exact terminates_of_cycle hs.1 (hrst j) hidle hcycle (ih (j + 1) (by rwa [Nat.add_right_comm, Nat.add_assoc]))
    · have hcycle := (cycle_gate (hrst j) hst).trans (gate_opens hdue')
      exact terminates_of_cycle hs.1 (hrst j) hidle hcycle (hopen j _ hdue' hcycle)

/-- The sequencer keeps STEP_DELAY (R18). -/
theorem cycle_keeps_stepDelay {x : Input} {t : State} (h : cycle x s = .next t) (hrst : x.rst = false)
    (hst : s.st ≠ .idle) : t.stepDelay = s.stepDelay := by
  rcases cycle_control h hrst with ⟨-, hdelay, -⟩ | ⟨hidle, -⟩
  · exact hdelay
  · exact absurd hidle hst

/-- A command in progress terminates if the gate is always due again: by the distance to DONE. -/
theorem terminates_of_fair {D : Nat} (hrst : ∀ j, (f j).rst = false)
    (hfair : ∀ (j : Nat) (p : Time), ∃ j', j ≤ j' ∧ D ≤ ((f j').now - p).toNat) (hs : s.Inv) (hst : s.st ≠ .idle)
    (hdelay : s.stepDelay.toNat = D) (j : Nat) : Terminates f j s := by
  obtain ⟨r, hr⟩ : ∃ r, s.rank = r := ⟨_, rfl⟩
  induction r using WellFoundedLT.induction generalizing s j with
  | ind r ih =>
    subst hr
    by_cases hdone : s.st = .done
    · exact terminates_of_done j hdone
    have hnearer (j : Nat) (t : State) (hgate : s.st = .gate → D ≤ ((f j).now - s.last).toNat)
        (hcycle : cycle (f j) s = .next t) : Terminates f (j + 1) t := by
      rcases cycle_nearer hs (hrst j) hst hdone (hdelay ▸ hgate) hcycle with htdone | ⟨htst, hlt⟩
      · exact terminates_of_done (j + 1) htdone
      · exact ih _ hlt (cycle_keeps_inv hs hcycle) htst
          ((congrArg BitVec.toNat (cycle_keeps_stepDelay hcycle (hrst j) hst)).trans hdelay) (j + 1) rfl
    by_cases hgate : s.st = .gate
    · obtain ⟨j', hle, hdue⟩ := hfair j s.last
      obtain ⟨n, rfl⟩ := Nat.exists_eq_add_of_le hle
      exact terminates_of_gate hs hrst hgate (fun i t hi => hnearer i t fun _ => hdelay ▸ hi) n j (hdelay ▸ hdue)
    · obtain ⟨t, hcycle⟩ := cycle_answers (f j) hs
      exact terminates_of_cycle hs.1 (hrst j) hst hcycle (hnearer j t (fun h => absurd h hgate) hcycle)

/-- Settles O56: the supply is listed from its first sample on. -/
theorem everyCommandTerminates : Obligations.EveryCommandTerminates := by
  intro s f hs hst hrst hfair
  obtain ⟨k, t, hrun, hdone⟩ := terminates_of_fair hrst hfair hs hst rfl 0
  refine ⟨k, t, ?_, hdone⟩
  rw [← hrun, ← List.range_eq_range']
  rfl

end

end Sys2Proof.Machine
end

section
/-! PROOF. The configuration and observation commands (45_config.md R118 to R122): RESIZE, GET_MOTOR_COUNT,
READ_POS. -/

namespace Sys2Proof.Machine

/-! ### The acceptance actions, an equation per branch -/

theorem exec_resize (count : Idx) (s : State) : exec (.resize count) s = execResize count s := rfl

theorem exec_getMotorCount (s : State) : exec .getMotorCount s = .next (s.respond .ok (s.n.zeroExtend 32)) := rfl

theorem exec_readPos (idx : Idx) (s : State) : exec (.readPos idx) s = execReadPos idx s := rfl

theorem execResize_of_le {count : Idx} {s : State} (hpos : 1 ≤ count.toNat) (hmax : count.toNat ≤ s.cfg.nmax) :
    execResize count s = .next ({ s with
      n := count, pos := List.replicate s.cfg.nmax 0#32
      dbuf := List.replicate s.cfg.nmax 0#32 }.respond .ok 1#32) := by
  have hne : count ≠ 0#16 := fun h => absurd hpos (by simp [h])
  exact if_neg (not_or.mpr ⟨hne, Nat.not_lt.mpr hmax⟩)

theorem execResize_of_fails {count : Idx} {s : State} (h : count.toNat = 0 ∨ s.cfg.nmax < count.toNat) :
    execResize count s = .next (s.respond .errResize 0#32) :=
  if_pos (h.imp_left fun h0 => BitVec.eq_of_toNat_eq h0)

theorem execReadPos_of_lt {idx : Idx} {s : State} {p : Counter} (hidx : s.motorInRange idx)
    (hp : s.pos[idx.toNat]? = some p) : execReadPos idx s = .next (s.respond .ok p) := by
  rw [execReadPos, if_pos hidx, withEntry, hp]

theorem execReadPos_of_le {idx : Idx} {s : State} (hidx : s.n.toNat ≤ idx.toNat) :
    execReadPos idx s = .next (s.raise .errRange) := if_neg (Nat.not_lt.mpr hidx)

/-- The response data hold N unchanged (R121). -/
theorem toNat_zeroExtend_count (n : Idx) : (n.zeroExtend 32).toNat = n.toNat :=
  BitVec.toNat_setWidth_of_le (by decide)

/-- Settles O32: the word decodes by its opcode, and the action is one branch of R118 or the other. -/
theorem resizeAcceptance : Obligations.ResizeAcceptance := by
  intro s count
  refine ⟨fun w hop hrsv hf16 => ?decode, execResize_of_le, execResize_of_fails⟩
  rw [decode_of_opcode (i := .resize count) hrsv hop, hf16]
  rfl

/-- Settles O33: the word decodes by its opcode, and the action has one branch. -/
theorem getMotorCountAcceptance : Obligations.GetMotorCountAcceptance :=
  fun s => ⟨fun _ hop hrsv => decode_of_opcode (i := .getMotorCount) hrsv hop,
    _, toNat_zeroExtend_count s.n, exec_getMotorCount s⟩

/-- Settles O34: the word decodes by its opcode, and an index in range is within POS. -/
theorem readPosAcceptance : Obligations.ReadPosAcceptance := by
  intro s idx hs
  refine ⟨fun w hop hrsv hf16 => ?decode, fun hidx => ?inRange, execReadPos_of_le⟩
  case decode =>
    rw [decode_of_opcode (i := .readPos idx) hrsv hop, hf16]
    rfl
  case inRange =>
    have hp := List.getElem?_eq_getElem (hs.lt_pos hidx)
    exact ⟨_, hp, execReadPos_of_lt hidx hp⟩

/-! ### RESIZE followed by GET_MOTOR_COUNT (R119) -/

/-- A step whose sample offers the word of command `i` in IDLE is the acceptance action of `i` (R50). -/
theorem step_command {s : State} {x : Input} {rest : List Input} {i : Instr} (hcfg : s.cfg.WellFormed)
    (hst : s.st = .idle) (hin : s.inputs = x :: rest) (hrst : x.rst = false) (hvalid : x.cmdValid = true)
    (hword : x.cmdWord = encode i) : step s = exec i { s with inputs := rest } := by
  obtain ⟨htaken, -, -⟩ := commandAcceptance s x rest hcfg hin hrst
  exact htaken hst hvalid i (hword ▸ decodeOfEncode i)

/-- RESIZE responds on both branches, with the new count in N or the old one (R118, R119). -/
theorem execResize_responds (count : Idx) (s : State) : ∃ (u : State) (e : Status) (d : Word),
    execResize count s = .next (u.respond e d) ∧
    u.cfg = s.cfg ∧ u.inputs = s.inputs ∧
    u.n.toNat = if 1 ≤ count.toNat ∧ count.toNat ≤ s.cfg.nmax then count.toNat else s.n.toNat := by
  split
  next hok =>
    obtain ⟨hpos, hmax⟩ := hok
    exact ⟨_, _, _, execResize_of_le hpos hmax, rfl, rfl, rfl⟩
  next hno =>
    have hfails : count.toNat = 0 ∨ s.cfg.nmax < count.toNat := by omega
    exact ⟨_, _, _, execResize_of_fails hfails, rfl, rfl, rfl⟩

/-- Settles O35: RESIZE and its DONE cycle leave the count in N, and GET_MOTOR_COUNT answers it. -/
theorem countAfterResize : Obligations.CountAfterResize := by
  intro s count x y z rest hs hst hin hxrst hyrst hzrst hxvalid hxword hzvalid hzword
  obtain ⟨u, e, d, hresize, hcfg, hinputs, hn⟩ := execResize_responds count { s with inputs := y :: z :: rest }
  have hwf : u.cfg.WellFormed := hcfg ▸ hs.1
  have hdone : stepsTo 2 s = .next (u.respond e d).dropInput.finish :=
    stepsTo_respond ((step_command hs.1 hst hin hxrst hxvalid hxword).trans hresize) hwf
      ((nextInput_of_cons hinputs).symm ▸ hyrst)
  have hcount := step_command (s := (u.respond e d).dropInput.finish) (x := z) (rest := rest) (i := .getMotorCount)
    (by simpa using hwf) rfl (by simp [hinputs]) hzrst hzvalid hzword
  rw [exec_getMotorCount] at hcount
  refine ⟨_, (stepsTo_add 1 hdone).trans (stepsTo_one hcount), rfl, rfl, ?data⟩
  rw [State.respond_respData, toNat_zeroExtend_count, ← hn]
  simp only [State.finish_n, State.dropInput_n, State.respond_n]

end Sys2Proof.Machine
end

section
/-! PROOF. The error statuses (60_exceptions.md R124 to R132): what raises each of them, and the course of an
error. -/

namespace Sys2Proof.Machine

/-! ### The checks of an acceptance cycle -/

/-- The status of the one operand check that a legal command makes (R126 to R128, R130). -/
def State.operandCheck (s : State) : Instr → Status
  | .setSpeedRpm r | .setSpeedRad r => if r = 0#32 then .errSpeed else .ok
  | .resize c => if c = 0#16 ∨ s.cfg.nmax < c.toNat then .errResize else .ok
  | .writeDelta k _ | .readPos k => if s.n.toNat ≤ k.toNat then .errRange else .ok
  | .moveMany l => if s.n.toNat < l.toNat then .errRange else .ok
  | .moveOne _ _ | .home | .getMotorCount => .ok

/-- The status of the checks on a taken word: the illegal check, then the command's own (R130). -/
def State.wordCheck (s : State) (w : Cmd) : Status :=
  match decode w with
  | .ok i => s.operandCheck i
  | .error _ => .errIllegal

theorem wordCheck_of_ok {w : Cmd} {i : Instr} (s : State) (h : decode w = .ok i) :
    s.wordCheck w = s.operandCheck i := by
  simp [State.wordCheck, h]

theorem wordCheck_of_error {w : Cmd} {e : Illegal} (s : State) (h : decode w = .error e) :
    s.wordCheck w = .errIllegal := by
  simp [State.wordCheck, h]

@[simp] theorem operandCheck_dropInput (s : State) (i : Instr) : s.dropInput.operandCheck i = s.operandCheck i := by
  cases i <;> simp [State.operandCheck]

@[simp] theorem wordCheck_dropInput (s : State) (w : Cmd) : s.dropInput.wordCheck w = s.wordCheck w := by
  simp [State.wordCheck]

/-! ### Which commands fail each check -/

theorem operandCheck_ne_errIllegal (s : State) (i : Instr) : s.operandCheck i ≠ .errIllegal := by
  cases i <;> simp [State.operandCheck, ite_eq_iff]

theorem operandCheck_eq_errSpeed_iff (s : State) (i : Instr) :
    s.operandCheck i = .errSpeed ↔ i = .setSpeedRpm 0#32 ∨ i = .setSpeedRad 0#32 := by
  cases i <;> simp [State.operandCheck, ite_eq_iff]

theorem operandCheck_eq_errResize_iff (s : State) (i : Instr) :
    s.operandCheck i = .errResize ↔ ∃ c, i = .resize c ∧ (c = 0#16 ∨ s.cfg.nmax < c.toNat) := by
  cases i <;> simp [State.operandCheck, ite_eq_iff, or_iff_not_imp_left]

theorem operandCheck_eq_errRange_iff (s : State) (i : Instr) :
    s.operandCheck i = .errRange ↔
      (∃ k d, i = .writeDelta k d ∧ s.n.toNat ≤ k.toNat) ∨ (∃ k, i = .readPos k ∧ s.n.toNat ≤ k.toNat) ∨
      ∃ l, i = .moveMany l ∧ s.n.toNat < l.toNat := by
  cases i <;> simp [State.operandCheck, ite_eq_iff]

/-! ### The words that raise each error -/

/-- R125. -/
theorem wordCheck_eq_errIllegal_iff (s : State) (w : Cmd) :
    s.wordCheck w = .errIllegal ↔ ∃ e, decode w = .error e := by
  cases hdec : decode w with
  | ok i => simp [wordCheck_of_ok s hdec, operandCheck_ne_errIllegal]
  | error => simp [wordCheck_of_error s hdec]

/-- R126. -/
theorem wordCheck_eq_errSpeed_iff (s : State) (w : Cmd) :
    s.wordCheck w = .errSpeed ↔ decode w = .ok (.setSpeedRpm 0#32) ∨ decode w = .ok (.setSpeedRad 0#32) := by
  cases hdec : decode w with
  | ok i => simp [wordCheck_of_ok s hdec, operandCheck_eq_errSpeed_iff]
  | error => simp [wordCheck_of_error s hdec]

/-- R127. -/
theorem wordCheck_eq_errResize_iff (s : State) (w : Cmd) :
    s.wordCheck w = .errResize ↔ ∃ c, decode w = .ok (.resize c) ∧ (c = 0#16 ∨ s.cfg.nmax < c.toNat) := by
  cases hdec : decode w with
  | ok i => simp [wordCheck_of_ok s hdec, operandCheck_eq_errResize_iff]
  | error => simp [wordCheck_of_error s hdec]

/-- R128. -/
theorem wordCheck_eq_errRange_iff (s : State) (w : Cmd) :
    s.wordCheck w = .errRange ↔
      (∃ k d, decode w = .ok (.writeDelta k d) ∧ s.n.toNat ≤ k.toNat) ∨
      (∃ k, decode w = .ok (.readPos k) ∧ s.n.toNat ≤ k.toNat) ∨
      ∃ l, decode w = .ok (.moveMany l) ∧ s.n.toNat < l.toNat := by
  cases hdec : decode w with
  | ok i => simp [wordCheck_of_ok s hdec, operandCheck_eq_errRange_iff]
  | error => simp [wordCheck_of_error s hdec]

/-! ### The step that ends in DONE -/

section
variable {s t : State}

/-- A command that completes in its acceptance cycle answers the status of its check (R124). -/
theorem exec_status {i : Instr} (h : exec i s = .next t) (hdone : t.st = .done) :
    t.respStatus = statusCode (s.operandCheck i) := by
  cases i with
  | moveOne =>
    rcases execMoveOne_next h with ⟨-, rfl⟩ | ⟨-, rfl⟩
    · cases hdone
    · rfl
  | moveMany =>
    rcases execMoveMany_next h with ⟨-, -, -, rfl⟩ | ⟨hlt, rfl⟩
    · cases hdone
    · simp [State.operandCheck, hlt]
  | home => obtain rfl := execHome_next h; cases hdone
  | writeDelta =>
    rcases execWriteDelta_next h with ⟨hlt, -, rfl⟩ | ⟨hle, rfl⟩
    · simp [State.operandCheck, Nat.not_le.mpr hlt]
    · simp [State.operandCheck, hle]
  | setSpeedRpm => rcases execSetSpeedRpm_next h with ⟨hr, rfl⟩ | ⟨hr, rfl⟩ <;> simp [State.operandCheck, hr]
  | setSpeedRad => rcases execSetSpeedRad_next h with ⟨hr, rfl⟩ | ⟨hr, rfl⟩ <;> simp [State.operandCheck, hr]
  | resize c =>
    rcases execResize_next h with ⟨hpos, hle, rfl⟩ | ⟨hfails, rfl⟩
    · have hne : c ≠ 0#16 := fun h0 => absurd hpos (by simp [h0])
      simp [State.operandCheck, hne, Nat.not_lt.mpr hle]
    · simp [State.operandCheck, hfails]
  | getMotorCount => obtain rfl := execGetMotorCount_next h; rfl
  | readPos =>
    rcases execReadPos_next h with ⟨hlt, p, -, rfl⟩ | ⟨hle, rfl⟩
    · simp [State.operandCheck, Nat.not_le.mpr hlt]
    · simp [State.operandCheck, hle]

/-- The sequencer raises nothing: its steps into DONE answer OK (R132). -/
theorem Advances.status_of_done {now : Time} (h : Advances now s t) (hdone : t.st = .done) :
    t.respStatus = statusCode .ok := by
  cases h with
  | moveOneDone | checkDone => rfl
  | passZero hst | passMany hst | passHome hst | gateWait hst => cases hst.symm.trans hdone
  | latchEnd => cases hret : s.ret <;> simp [retState, hret] at hdone
  | _ => cases hdone

/-- A step without reset into DONE is the acceptance of a word in IDLE, or ends a command of the sequencer. -/
theorem step_into_done (h : step s = .next t) (hrst : s.nextInput.rst = false) (hdone : t.st = .done) :
    (s.st = .idle ∧ accept s.nextInput.cmdWord s.dropInput = .next t) ∨
    (s.st ≠ .idle ∧ t.respStatus = statusCode .ok) := by
  obtain ⟨-, hcycle⟩ := step_next h
  rw [← State.dropInput_st s]
  by_cases hst : s.dropInput.st = .idle
  · refine .inl ⟨hst, ?_⟩
    rw [cycle_idle hrst hst] at hcycle
    cases hvalid : s.nextInput.cmdValid with
    | true => rwa [idle_of_valid hvalid] at hcycle
    | false =>
      rw [idle_of_not_valid hvalid] at hcycle
      cases hcycle
      cases hst.symm.trans hdone
  · refine .inr ⟨hst, ?_⟩
    rcases cycle_advances hcycle hrst with rfl | ⟨hidle, -⟩ | ⟨hidle, -⟩ | hadv
    · rw [cycle_done hrst hdone] at hcycle
      injection hcycle with hfinish
      rw [← hfinish] at hdone
      cases hdone
    · exact absurd hidle hst
    · exact absurd hidle hst
    · exact hadv.status_of_done hdone

/-- An acceptance that completes answers the status of the checks on its word. -/
theorem accept_status {w : Cmd} (h : accept w s = .next t) (hdone : t.st = .done) :
    t.respStatus = statusCode (s.wordCheck w) := by
  cases hdec : decode w with
  | ok i =>
    rw [accept_of_ok hdec] at h
    rw [wordCheck_of_ok s hdec, exec_status h hdone]
  | error =>
    rw [accept_of_error hdec] at h
    cases h
    rw [wordCheck_of_error s hdec, State.raise_respStatus]

/-- An acceptance that completes either answers OK or is `raise` and nothing else (R8, R35). -/
theorem accept_done {w : Cmd} (h : accept w s = .next t) (hdone : t.st = .done) :
    t.respStatus = 0#4 ∨ ∃ e, t = s.raise e := by
  cases hdec : decode w with
  | ok i =>
    rw [accept_of_ok hdec] at h
    exact exec_done h hdone
  | error =>
    rw [accept_of_error hdec] at h
    cases h
    exact .inr ⟨_, rfl⟩

/-- An error status is entered exactly where the checks on a word taken in IDLE give it (R124, R132). -/
theorem step_respStatus_eq_iff (h : step s = .next t) (hrst : s.nextInput.rst = false) (hdone : t.st = .done)
    (e : Status) (he : e ≠ .ok) :
    t.respStatus = statusCode e ↔ s.st = .idle ∧ s.wordCheck s.nextInput.cmdWord = e := by
  rcases step_into_done h hrst hdone with ⟨hst, haccept⟩ | ⟨hst, hok⟩
  · rw [accept_status haccept hdone, wordCheck_dropInput]
    exact ⟨fun heq => ⟨hst, statusCode_inj heq⟩, fun ⟨_, heq⟩ => congrArg statusCode heq⟩
  · rw [hok]
    exact ⟨fun heq => absurd (statusCode_inj heq).symm he, fun ⟨hidle, _⟩ => absurd hidle hst⟩

/-- The whole of an error's entry is `raise` (R8, R131). -/
theorem step_eq_raise (h : step s = .next t) (hrst : s.nextInput.rst = false) (hdone : t.st = .done)
    (hfail : t.respStatus ≠ 0#4) : ∃ e, t = s.dropInput.raise e := by
  rcases step_into_done h hrst hdone with ⟨-, haccept⟩ | ⟨-, hok⟩
  · exact (accept_done haccept hdone).resolve_left hfail
  · exact absurd hok hfail

end

/-! ### The statements -/

/-- Settles O15: a step into DONE answers the status of the checks on the taken word, and each error has
the words of its rule; a failed check is `raise`. -/
theorem errorsHaveExactlyTheirCauses : Obligations.ErrorsHaveExactlyTheirCauses := by
  intro s t h hrst hdone
  have hcause := step_respStatus_eq_iff h hrst hdone
  refine ⟨(hcause .errIllegal (by decide)).trans (and_congr_right' (wordCheck_eq_errIllegal_iff ..)),
    (hcause .errSpeed (by decide)).trans (and_congr_right' (wordCheck_eq_errSpeed_iff ..)),
    (hcause .errResize (by decide)).trans (and_congr_right' (wordCheck_eq_errResize_iff ..)),
    (hcause .errRange (by decide)).trans (and_congr_right' (wordCheck_eq_errRange_iff ..)), fun hfail => ?_⟩
  obtain ⟨e, rfl⟩ := step_eq_raise h hrst hdone hfail
  rfl

/-- Settles O58: the entry is `raise` and the return is DONE's step to IDLE. -/
theorem errorEntryAndReturn : Obligations.ErrorEntryAndReturn := by
  intro s t x y rest hcfg hst hin hxrst hyrst h hdone hfail
  obtain ⟨e, rfl⟩ := step_eq_raise h (by rwa [nextInput_of_cons hin]) hdone hfail
  rw [dropInput_of_cons hin] at h ⊢
  exact stepsTo_respond h hcfg hyrst

end Sys2Proof.Machine
end

section
/-! PROOF. Reset (70_reset_and_hazards.md R141, R142) and the gate under a time that stands still (R150). -/

namespace Sys2Proof.Machine

/-! ### Reset cycles -/

theorem step_reset {s : State} {x : Input} {rest : List Input} (hcfg : s.cfg.WellFormed)
    (hin : s.inputs = x :: rest) (hrst : x.rst = true) :
    step s = .next ((s.withInputs rest).resetCycle x.now) := by
  rw [step_eq_cycle hcfg, nextInput_of_cons hin, dropInput_of_cons hin, cycle_reset hrst]
  rfl

/-- A reset cycle undoes all that an earlier one did: the traces it finds are empty, so it adds none to the past
ones (R142). -/
theorem resetCycle_withInputs_resetCycle (s : State) (first last : Time) (pending rest : List Input) :
    (((s.withInputs pending).resetCycle first).withInputs rest).resetCycle last =
      (s.withInputs rest).resetCycle last := by
  simp [State.resetCycle, State.resetOf, State.withInputs]

/-- A run of reset cycles is its last cycle: each one before it is undone by the next (R142). -/
theorem stepsTo_resets {s : State} {xs : List Input} {x : Input} {rest : List Input} (hcfg : s.cfg.WellFormed)
    (hin : s.inputs = xs ++ x :: rest) (hxs : ∀ y ∈ xs, y.rst = true) (hx : x.rst = true) :
    stepsTo (xs.length + 1) s = .next ((s.withInputs rest).resetCycle x.now) := by
  induction xs generalizing s with
  | nil => exact stepsTo_one (step_reset hcfg hin hx)
  | cons y ys ih =>
    obtain ⟨hy, hys⟩ := List.forall_mem_cons.mp hxs
    calc stepsTo (ys.length + 1 + 1) s
        = stepsTo (ys.length + 1) ((s.withInputs (ys ++ x :: rest)).resetCycle y.now) :=
          stepsTo_succ _ (step_reset hcfg hin hy)
      _ = .next ((((s.withInputs (ys ++ x :: rest)).resetCycle y.now).withInputs rest).resetCycle x.now) :=
          ih hcfg rfl hys
      _ = .next ((s.withInputs rest).resetCycle x.now) := by rw [resetCycle_withInputs_resetCycle]

/-- Settles O17: the cycle is `resetCycle`, which begins new traces and keeps the old ones as past ones. -/
theorem resetCycleEffect : Obligations.ResetCycleEffect := by
  intro s x rest hcfg hin hrst
  refine ⟨[], s.pastPins ++ s.pinTrace, [], s.pastOpens ++ s.gateOpens, by simp, by simp, ?_⟩
  rw [step_reset hcfg hin hrst]
  rfl

/-- Settles O18, by induction on the reset cycles before the last one. -/
theorem resetHeldIsItsLastCycle : Obligations.ResetHeldIsItsLastCycle :=
  fun _ _ _ _ hcfg hin hxs hx => stepsTo_resets hcfg hin hxs hx

/-- A state that reset has left is not changed by a reset cycle at the same time. -/
theorem resetCycle_resetOf (c : Config) (now : Time) :
    (State.resetOf c now).resetCycle now = State.resetOf c now := rfl

theorem resetOf_inv {c : Config} (hc : c.WellFormed) (now : Time) : (State.resetOf c now).Inv :=
  resetCycle_resetOf c now ▸ resetCycle_inv (s := State.resetOf c now) hc now

/-- Settles O19: a reset cycle ends in a state of the invariant, and configuration T1 is well formed. -/
theorem resetStateMeetsInvariant : Obligations.ResetStateMeetsInvariant :=
  ⟨fun _ now hc => resetOf_inv hc now, resetOf_inv (by decide) 0#64⟩

/-! ### Waiting in GATE -/

/-- A gate that is not due only takes its sample (R85). -/
theorem step_gate_waits {s : State} {x : Input} {rest : List Input} (hcfg : s.cfg.WellFormed) (hst : s.st = .gate)
    (hin : s.inputs = x :: rest) (hrst : x.rst = false) (hearly : (x.now - s.last).toNat < s.stepDelay.toNat) :
    step s = .next (s.withInputs rest) := by
  have hnext := nextInput_of_cons hin
  rw [step_gate hcfg (hnext ▸ hrst) hst, hnext, dropInput_of_cons hin]
  exact gate_waits hearly

/-- Settles O49, by induction on the cycles: each takes its sample and leaves the same gate and watermark to wait
for. -/
theorem frozenTimeHangsTheGate : Obligations.FrozenTimeHangsTheGate := by
  intro s k hcfg hst hq hearly
  induction k generalizing s with
  | zero => rfl
  | succ k ih =>
    obtain ⟨x, rest, hin, hrst, -, -, hrest⟩ := hq.head
    rw [hin, List.take_succ_cons] at hearly
    obtain ⟨hx, hlater⟩ := List.forall_mem_cons.mp hearly
    rw [stepsTo_succ k (step_gate_waits hcfg hst hin hrst hx), ih (s.withInputs rest) hcfg hst hrest hlater, hin]
    rfl

end Sys2Proof.Machine
end
